-- ==== Sys2Proof/Word.lean ====
section
/-! DEFINITION. The word types of the PJC-1224 and the small index types its commands name. -/

namespace Sys2Proof

/-- One byte of a record, a payload or a register. -/
abbrev Byte := BitVec 8
/-- A 16-bit field: sequences, source frame numbers, CRC, samples. -/
abbrev Half := BitVec 16
/-- A 32-bit field: registers, counters, gauge. -/
abbrev Word := BitVec 32
/-- A 64-bit byte address (00_scope.md, Conventions). -/
abbrev Addr := BitVec 64
/-- A value of the 64-bit time base, in microseconds (R184). -/
abbrev Time := BitVec 64
/-- What a 16-byte read returns, byte 0 in the least significant bits. -/
abbrev Read16 := BitVec 128
/-- What a 128-byte read returns, byte 0 in the least significant bits. -/
abbrev Read128 := BitVec 1024

/-- A lane number, 0 to 11. -/
abbrev Lane := Fin 12
/-- A tag, 0 to 3. -/
abbrev Tag := Fin 4
/-- A stream number, 0 to 23. -/
abbrev StreamId := Fin 24
/-- A window index, 0 to 7. -/
abbrev WindowIndex := Fin 8
/-- A Memory Port client, 0 to 13 (R120): LW0 to LW11, then CW (12) and RW (13). -/
abbrev Client := Fin 14

/-- The direction of a trigger edge (R78, R113). -/
inductive Edge where
  | rise
  | fall
  deriving DecidableEq, Repr

/-- The direction of a transaction (R121, R123). -/
inductive Direction where
  | read
  | write
  deriving DecidableEq, Repr

end Sys2Proof
end

