-- ==== Sys2Proof/Syntax.lean ====
section
/-! DEFINITION. The commands of the part: one constructor per row of spec/opcode_table.json. -/

namespace Sys2Proof

/-- A command: a register write, a symbol, a pin event, a response, or a spontaneous step of the part. -/
inductive Instr where
  -- CONTROL commands and register writes (chapter 9)
  | enable
  | quiesce
  | reset
  | irqOn
  | irqOff
  | noCommand
  /-- A CONTROL write of an encoding that names no command. -/
  | unknownCommand (value : Word)
  | boardLoWrite (value : Word)
  | boardHiWrite (value : Word)
  | attendWrite (value : Word)
  | seenWrite (value : Word)
  | causeWrite (value : Word)
  /-- A Register Port write without effect: offset, byte enables, value. -/
  | registerWriteOther (offset : BitVec 5) (enables : BitVec 4) (value : Word)
  | powerOnReset
  -- Symbols of a lane link and the trigger line (chapter 5)
  | idleSymbol (lane : Lane)
  | startSymbol (lane : Lane)
  | endSymbol (lane : Lane)
  | abortSymbol (lane : Lane)
  | dataByte (lane : Lane) (byte : Byte)
  | codeViolation (lane : Lane)
  | triggerEdge (lane : Lane) (edge : Edge)
  -- Timers
  | armDeadlineExpiry (stream : StreamId)
  | sweepExpiry
  | laneRefreshExpiry
  | responseTimeout (client : Client) (direction : Direction)
  -- The Memory Port (chapter 6)
  | grant
  | issueAccepted
  | lateResponse (client : Client) (direction : Direction)
  -- The Chain Walker (chapter 2)
  | anchorJob
  | fetchJob
  | linkJob
  | orderReadIssue
  | anchorReadDone (data : Read16)
  /-- A START request acted on: stream, request number, and the anchor fields of START. -/
  | start (stream : StreamId) (number lane tag window : Byte) (reserved : BitVec 24) (head : Addr)
  | halt (stream : StreamId) (number : Byte)
  | resume (stream : StreamId) (number : Byte)
  | forget (stream : StreamId) (number : Byte)
  | orderReadDone (data : Read128)
  | linkReadDone (data : Read16)
  | boardHeaderReadDone (data : Read128)
  -- OK completions of the Lane Writers and the Report Writer (chapters 3 and 7)
  | slotReadDone (lane : Lane) (data : Read16)
  | dataWriteDone (lane : Lane)
  | metadataWriteDone
  | fillWriteDone
  | deviceHalfWriteDone
  | publicationBegin
  | streamStatusWriteDone
  | summaryWriteDone
  | laneStatusWriteDone
  -- Error responses (chapter 8)
  | slotReadFault (lane : Lane)
  | dataWriteFault (lane : Lane)
  | commitWriteFault
  | deviceHalfWriteFault
  | orderReadFault
  | linkReadFault
  | anchorReadFault
  | boardHeaderReadFault
  | boardWriteFault
  -- Quiescing and reset (chapters 7 and 9)
  | quiescePoint
  | drainLaneRefresh
  | closingPublication
  | resetComplete
  | resetInputReleased
  deriving DecidableEq, Repr

end Sys2Proof
end

