-- ==== Sys2Proof/Decode.lean ====
section
/-! DEFINITION. Commands are not words on this hardware: no row of spec/opcode_table.json gives bits, so
no word spells a command. -/

namespace Sys2Proof

/-- The command an `nbits`-wide word `w` spells by the table's bits: none, since no row has any. -/
def decodeTableWord (_nbits _w : Nat) : Option Instr := none

end Sys2Proof
end

