-- ==== Sys2Proof/Config.lean ====
section
/-! DEFINITION. What the part fixes, and the one free value the spec leaves open. -/

namespace Sys2Proof.Config

/-- Bytes of one staging chunk (R107). -/
def chunkBytes : Nat := 64
/-- Chunks of one staging buffer (R107). -/
def chunkCount : Nat := 64
/-- Occupancy from which a lane is urgent (R110). -/
def urgentBytes : Nat := 3072
/-- Consecutive IDLE symbols that give lock (R97). -/
def lockRun : Nat := 32
/-- The code violation that loses lock (R98). -/
def lockViolations : Nat := 4
/-- Outstanding writes the port allows (R123). -/
def maxWrites : Nat := 16
/-- Outstanding reads the port allows (R123). -/
def maxReads : Nat := 4
/-- Most bytes of one data write (R63). -/
def maxDataWrite : Nat := 256
/-- Quantum, in 64-byte units, of every client while no snapshot is in force (R126). -/
def resetQuantum : Nat := 64
/-- Response timeout of the Board header reads, in microseconds (R130). -/
def headerTimeout : Nat := 65535
/-- IDENT: family 0x504A, part 0x4C8, revision 1 (R168, section 10.10). -/
def ident : Word := 0x504A4C81#32
/-- Largest declared length a header may state (R100). -/
def maxDeclared : Nat := 4194304

/-- FREE VALUE (log entry 8). R131 gives an expired count the range 0 to 255 and raises it by one at a
timeout; it states no result for a raise at 255. The argument is a plain counter of State. -/
opaque expiredPast255 : Nat → Byte

end Sys2Proof.Config
end

