-- ==== Sys2Proof/Machine/State.lean ====
section
/-! DEFINITION. The state of the PJC-1224, block by block, and its values after a power-on reset. -/

namespace Sys2Proof.Machine

/-! ### Orders, slots and records -/

/-- How an order completes (R28); encoding in section 10.7. -/
inductive OrderKind where
  | single | count | open
  deriving DecidableEq, Repr

/-- When capture begins after acceptance (R77). -/
inductive StartKind where
  | immediate | edge | mark
  deriving DecidableEq, Repr

/-- The frame-end test of the gauge (R87). -/
inductive Gate where
  | none | atOrAbove | below
  deriving DecidableEq, Repr

/-- Page choice (R59, R60). -/
inductive Policy where
  | strict | seek
  deriving DecidableEq, Repr

/-- The host-half fields kept at acceptance (R1, R27). `sense` is the byte as read: it is judged for an
EDGE order only (R27). -/
structure OrderParams where
  kind : OrderKind
  start : StartKind
  sense : Byte
  gate : Gate
  policy : Policy
  thin : Nat
  sizeCode : Nat
  pageCount : Nat
  armLimit : Half
  reportInterval : Half
  gateLevel : Word
  target : Word
  pageBase : Addr
  slotTable : Addr
  deriving DecidableEq, Repr

/-- The working counters of an order (R89), with its first and last committed source frame number, none
before the first commit (R29, R70). -/
structure Counters where
  met : Word
  passedOver : Word
  thinned : Word
  gated : Word
  held : Word
  lost : Word
  committed : Word
  edgesIgnored : Word
  first : Option Half
  last : Option Half
  deriving DecidableEq, Repr

/-- The counters at acceptance, and in a retirement at fetch: all 0 (R29, R89). -/
def Counters.zero : Counters := ⟨0, 0, 0, 0, 0, 0, 0, 0, none, none⟩

/-- A current order with the per-order fields of the context (R1). -/
structure CurrentOrder where
  address : Addr
  params : OrderParams
  cursor : Nat
  thinPhase : Nat
  counters : Counters
  /-- Commits since the last progress report (R72). -/
  commitsSince : Half
  acceptTime : Time
  deriving DecidableEq, Repr

/-- An order's standing as its device half shows it (section 10.7). -/
inductive OrderOutcome where
  | pending | active | done | cut | noTrigger | refused | window | fault
  deriving DecidableEq, Repr

/-- The reason beside an outcome (R44, section 10.7). -/
inductive Reason where
  | none
  | singleMet | countMet | halted | haltedInFlight | armLimit | pastAtEnable
  | badKind | badStart | badSense | badGate | badPolicy | badThin | badSize | badCount
  | baseAlign | slotAlign | badTarget | reservedSet
  | pagesOutside | slotsOutside | recordOutside
  | readFault | writeFault | laneDisabled
  deriving DecidableEq, Repr

/-- The contents of a device-half write (R29). -/
structure DeviceHalf where
  outcome : OrderOutcome
  reason : Reason
  counters : Counters
  acceptTime : Time
  retireTime : Time
  deriving DecidableEq, Repr

/-- The contents of a slot metadata write (R67). -/
structure SlotMeta where
  flags : Half
  sourceNumber : Half
  length : Word
  gauge : Word
  commitIndex : Word
  commitTime : Time
  deriving DecidableEq, Repr

/-! ### Streams (chapter 1) -/

/-- What a stream takes from its anchor at START (R3). -/
structure Binding where
  lane : Lane
  tag : Tag
  window : WindowIndex
  deriving DecidableEq, Repr

/-- A step the walker will take (R6). A link step carries whether it is ready (R31). -/
inductive ResumePoint where
  | fetch (order : Addr)
  | link (order : Addr) (ready : Bool)
  deriving DecidableEq, Repr

/-- Stream fault codes (R152). -/
inductive FaultCode where
  | orderOutside | staleOrder | linkBad | readFault | writeFault | laneDisabled
  deriving DecidableEq, Repr

/-- The seven states of a bound stream, each with the fields R1 gives it. -/
inductive Phase where
  | fetching (resume : ResumePoint)
  | armed (order : CurrentOrder) (deadline : Option Time)
  | capturing (order : CurrentOrder)
  | halting (order : CurrentOrder)
  | halted (resume : ResumePoint)
  | parked (tail : Addr)
  | faulted (code : FaultCode)
  deriving DecidableEq, Repr

/-- IDLE, which holds no binding, or one of the other seven states, which hold one (R3, R5). -/
inductive Standing where
  | idle
  | bound (binding : Binding) (phase : Phase)
  deriving DecidableEq, Repr

/-- The result recorded for an acted request (R13). -/
inductive RequestResult where
  | noResult | done | wrongState | bindingTaken | laneDisabled | badHead | badWindow | badField
  deriving DecidableEq, Repr

/-- A stream context (R1). The frame in flight is held by the Lane Writer (R56). -/
structure Context where
  standing : Standing
  acted : Byte
  result : RequestResult
  lastSource : Option Half
  unclaimed : Word
  missed : Word
  deriving DecidableEq, Repr

/-- The context after either reset (R2). -/
def Context.reset : Context := ⟨.idle, 0, .noResult, none, 0, 0⟩

/-! ### Status records (chapter 7) -/

/-- The contents of a stream status record (R141). -/
structure StreamRecord where
  context : Context
  publication : Word
  deriving DecidableEq, Repr

/-- The lock state of a receiver, with what it holds there (R96). -/
inductive Lock where
  | off
  | hunting (idleRun : Nat)
  | locked (violations : Nat)
  deriving DecidableEq, Repr

/-- The lane counters (R115). -/
structure LaneCounters where
  framesStarted : Word
  unbound : Word
  checkFailures : Word
  lengthErrors : Word
  badHeaders : Word
  overflows : Word
  codeViolations : Word
  lockLosses : Word
  sourceAborts : Word
  refused : Word
  deriving DecidableEq, Repr

/-- The lane counters after either reset (R116). -/
def LaneCounters.zero : LaneCounters := ⟨0, 0, 0, 0, 0, 0, 0, 0, 0, 0⟩

/-- The contents of a lane status record (R145). -/
structure LaneRecord where
  lock : Lock
  counters : LaneCounters
  refreshTime : Time
  deriving DecidableEq, Repr

/-- The device state a Summary carries (R142). -/
inductive SummaryState where
  | running | quiescing | quiet
  deriving DecidableEq, Repr

/-- The contents of the Summary (R142). -/
structure Summary where
  reportNumber : Word
  device : SummaryState
  time : Time
  deriving DecidableEq, Repr

/-! ### Transactions (chapter 6) -/

/-- A transaction of a client, as the client formed it (R121): each with the address it starts at, but for a
device-half write, which names the order it writes. `disowned` marks a device-half write made before a
FORGET of its stream (R152). -/
inductive Txn where
  | slotRead (lane : Lane) (address : Addr)
  | dataWrite (lane : Lane) (address : Addr) (bytes : List Byte)
  | anchorRead (address : Addr)
  | orderRead (address : Addr)
  | linkRead (address : Addr)
  | headerRead (address : Addr)
  | metadataWrite (lane : Lane) (address : Addr) (contents : SlotMeta)
  | fillWrite (lane : Lane) (address : Addr) (fill : Half)
  | deviceHalfWrite (stream : StreamId) (disowned : Bool) (order : Addr) (contents : DeviceHalf)
  | streamStatusWrite (address : Addr) (contents : StreamRecord)
  | laneStatusWrite (address : Addr) (contents : LaneRecord)
  | summaryWrite (address : Addr) (contents : Summary)
  deriving DecidableEq, Repr

/-- An entry of the outstanding table (R123): the transaction, whose client, direction and byte count
follow from it, and the time at which its response timer runs out. -/
structure Entry where
  txn : Txn
  timeout : Time
  deriving DecidableEq, Repr

/-- The Memory Port (R123 to R131). The table is oldest first. -/
structure MemoryPort where
  table : List Entry
  /-- The transaction placed at the issue point and not yet accepted by the interconnect (6.3, R130). -/
  issuePoint : Option Txn
  expiredReads : Vector Byte 14
  expiredWrites : Vector Byte 14
  deficits : Vector Nat 14
  position : Option Client
  urgentPointer : Lane
  deriving DecidableEq, Repr

/-- The port after a reset (R123, R124, R126, R131). -/
def MemoryPort.reset : MemoryPort :=
  { table := [], issuePoint := none
    expiredReads := Vector.replicate 14 0, expiredWrites := Vector.replicate 14 0
    deficits := Vector.replicate 14 0, position := none, urgentPointer := 0 }

/-! ### Chain Walker (chapter 2) -/

/-- The kind of a walker job (R30). -/
inductive JobKind where
  | anchor | fetch | link
  deriving DecidableEq, Repr

/-- A walker job (R30). -/
structure Job where
  stream : StreamId
  kind : JobKind
  deriving DecidableEq, Repr

/-- Where the job in hand stands. `issued` says whether the read presented has been granted; in
`awaitWrites` the number is of device-half writes still to end (R36). -/
inductive JobStage where
  | anchorRead (issued : Bool)
  | awaitWrites (order : Addr) (writesLeft : Nat)
  | orderRead (order : Addr) (issued : Bool)
  | linkRead (order : Addr) (issued : Bool)
  deriving DecidableEq, Repr

/-- The job the walker is working (R30). -/
structure JobInHand where
  job : Job
  stage : JobStage
  deriving DecidableEq, Repr

/-- The Chain Walker (R30). The sweep timer is stopped (`none`) or runs to a time. -/
structure Walker where
  queue : List Job
  inHand : Option JobInHand
  sweepDue : Option Time
  deriving DecidableEq, Repr

/-- The walker after either reset (R30). -/
def Walker.reset : Walker := ⟨[], none, none⟩

/-! ### Lane Receivers (chapter 5) -/

/-- What the receiver keeps of the offered frame whose end it has not reported (R105, R106, R111):
the gauge, an unpaired low sample byte, and whether its payload is still staged. -/
structure Gauging where
  gauge : Word
  low : Option Byte
  staging : Bool
  deriving DecidableEq, Repr

/-- A frame's disposition (R104, R105): discarded; dispatched and followed for checks and counts only;
or offered with its end still to be reported. -/
inductive Disposition where
  | discarded
  | followed
  | offered (gauging : Gauging)
  deriving DecidableEq, Repr

/-- A frame whose header has been accepted (R99, R100). -/
structure AcceptedFrame where
  tag : Tag
  mark : Bool
  sourceNumber : Half
  declared : Word
  disposition : Disposition
  received : Nat
  crc : Half
  deriving DecidableEq, Repr

/-- An open frame by phase (section 5.3). The CRC phase holds the first CRC byte once taken. -/
inductive OpenFrame where
  | header (bytes : List Byte) (crc : Half)
  | body (frame : AcceptedFrame)
  | crc (frame : AcceptedFrame) (first : Option Byte)
  deriving DecidableEq, Repr

/-- A staging buffer (R107): the bytes held, oldest first, and how many bytes of the head chunk have
already left. -/
structure Staging where
  bytes : List Byte
  headLeft : Nat
  deriving DecidableEq, Repr

/-- Staging with no chunk in use. -/
def Staging.empty : Staging := ⟨[], 0⟩

/-- A Lane Receiver (R96, R99, R107, R113, R115). `line` is the level of the trigger input pin; `sampled`
says that the sampler has taken the one sample of the microsecond under way (R113, log entry 7). -/
structure Receiver where
  lock : Lock
  frame : Option OpenFrame
  staging : Staging
  counters : LaneCounters
  heldLevel : Option Bool
  sampled : Bool
  line : Bool
  deriving DecidableEq, Repr

/-- A receiver after either reset (R96, R107, R113, R116), its trigger line low (log entry 7). -/
def Receiver.reset : Receiver := ⟨.off, none, Staging.empty, LaneCounters.zero, none, false, false⟩

/-! ### Lane Writers (chapter 3) -/

/-- What END reported of a frame (R103, R106). -/
structure FrameEnd where
  gauge : Word
  check : Bool
  length : Bool
  deriving DecidableEq, Repr

/-- The frame a Lane Writer holds, which is its stream's frame in flight, with the flags gathered so far
(R1, R56): MARK from its start, CHECK and LENGTH from its end, TRUNCATED (R64), and GAP and MARGIN from the
forming of its metadata (R67, R68). -/
structure FlightFrame where
  stream : StreamId
  sourceNumber : Half
  mark : Bool
  ended : Option FrameEnd
  truncated : Bool
  gap : Bool
  margin : Bool
  deriving DecidableEq, Repr

/-- A bound frame's placement (R56, R61). -/
structure Placement where
  slot : Nat
  page : Addr
  fill : Half
  offset : Nat
  outstanding : Nat
  deriving DecidableEq, Repr

/-- The write of a commit that is in progress at the RW (R69). -/
inductive CommitStage where
  | metadata | fill
  deriving DecidableEq, Repr

/-- A frame being dropped (R56 DROPPING): the frame in flight with the slot it was bound to, none before it
was bound (R1); the transactions still awaited; whether its loss is still to be counted (R65); the FAULT
retirement to hand over when nothing is awaited (R154); and whether a FORGET of the stream has been taken
since (R159). -/
structure DroppedFrame where
  frame : FlightFrame
  slot : Option Nat
  outstanding : Nat
  countLost : Bool
  retirement : Option (Addr × DeviceHalf)
  disowned : Bool
  deriving DecidableEq, Repr

/-- A Lane Writer's state with the fields held there (R56). A COMMITTING frame also holds by how much
source frames missed is to rise (R68). -/
inductive Writer where
  | idle
  | searching (frame : FlightFrame) (slot read : Nat) (issued : Bool)
  | placing (frame : FlightFrame) (place : Placement)
  | closing (frame : FlightFrame) (place : Placement)
  | committing (frame : FlightFrame) (place : Placement) (stage : CommitStage) (missedBy : Half)
  | dropping (frame : DroppedFrame)
  deriving DecidableEq, Repr

/-! ### Report Writer (chapter 7) -/

/-- The stage of a publication (R136). STATUS counts the status writes without a response. -/
inductive PublicationStage where
  | status (unanswered : Nat)
  | summary
  deriving DecidableEq, Repr

/-- The publication in progress (R136): its batch, each stream with the LINK step its record carried
(R142), its stage, and whether it is the closing publication of a drain (R147). -/
structure Publication where
  batch : List (StreamId × Option Addr)
  stage : PublicationStage
  closing : Bool
  deriving DecidableEq, Repr

/-- The initial publication of the current RUNNING period (R136, R146). -/
inductive InitialPublication where
  | complete
  | pending (statusUnanswered : Nat) (summaryMade : Bool)
  deriving DecidableEq, Repr

/-- How far the drain of QUIESCING has come (R147, R180). -/
inductive Drain where
  | notBegun | publications | laneRefresh | closing
  deriving DecidableEq, Repr

/-- The Report Writer (R136). `queue` is the write queue with the presented request at its head;
`laneUnanswered` is 0 exactly when no lane refresh is in progress (R145). -/
structure Reporter where
  pendingSet : Vector Bool 24
  reportNumber : Word
  publication : Option Publication
  initial : InitialPublication
  queue : List Txn
  laneUnanswered : Nat
  refreshDue : Option Time
  drain : Drain
  deriving DecidableEq, Repr

/-- The Report Writer after either reset (R136). -/
def Reporter.reset : Reporter :=
  { pendingSet := Vector.replicate 24 false, reportNumber := 0, publication := none
    initial := .complete, queue := [], laneUnanswered := 0, refreshDue := none, drain := .notBegun }

/-! ### Device Control (chapter 9) -/

/-- The gauge a lane forms (R111). -/
inductive GaugeKind where
  | sum | peak | over
  deriving DecidableEq, Repr

/-- What becomes of a frame that fails its checks (R103). -/
inductive CheckPolicy where
  | dropBad | keepBad
  deriving DecidableEq, Repr

/-- A lane configuration (section 10.2). The quantum is in units of 64 bytes. -/
structure LaneConfig where
  enabled : Bool
  gauge : GaugeKind
  overLevel : Half
  policy : CheckPolicy
  quantum : Nat
  deriving DecidableEq, Repr

/-- A window: base and size in 4 KiB granules, size 0 meaning closed (section 10.2). -/
structure Window where
  base : Addr
  granules : Word
  deriving DecidableEq, Repr

/-- The configuration snapshot (R175). -/
structure Snapshot where
  lanes : Vector LaneConfig 12
  windows : Vector Window 8
  walkerQuantum : Nat
  reporterQuantum : Nat
  sweepInterval : Byte
  refreshInterval : Byte
  responseTimeout : Half
  deriving DecidableEq, Repr

/-- The state ENABLE came from (R173). -/
inductive LoadOrigin where
  | off | quiet
  deriving DecidableEq, Repr

/-- A load in progress (R174): its origin, the 128-byte parts read so far in order, and whether the next
read has been issued. -/
structure Load where
  origin : LoadOrigin
  parts : List Read128
  issued : Bool
  deriving DecidableEq, Repr

/-- The device state (R173). -/
inductive DeviceState where
  | off
  | loading (load : Load)
  | running
  | quiescing
  | quiet
  | resetting
  | broken
  deriving DecidableEq, Repr

/-- The last command result (R169). -/
inductive CommandResult where
  | taken | refused | ignored | badStream
  deriving DecidableEq, Repr

/-- Device Control (R161, R168, R171, R173, R183, R184). `resetAsserted` is the reset input pin. -/
structure Control where
  device : DeviceState
  snapshot : Option Snapshot
  boardLo : Word
  boardHi : Word
  seen : Word
  cause : BitVec 4
  irqEnable : Bool
  result : CommandResult
  timeBase : Time
  resetAsserted : Bool
  deriving DecidableEq, Repr

/-- Device Control after a power-on reset, the reset input released (R183). -/
def Control.reset : Control :=
  { device := .off, snapshot := none, boardLo := 0, boardHi := 0, seen := 0, cause := 0
    irqEnable := false, result := .taken, timeBase := 0, resetAsserted := false }

/-! ### The machine -/

/-- The whole part, with the commands that wait for it (front first) and the counter that picks the next
free value (log entry 8). -/
structure State where
  pending : List Instr
  dc : Control
  streams : Vector Context 24
  walker : Walker
  receivers : Vector Receiver 12
  writers : Vector Writer 12
  rw : Reporter
  port : MemoryPort
  freeIndex : Nat
  deriving DecidableEq, Repr

/-- The machine after a power-on reset, with no command waiting. -/
def State.reset : State :=
  { pending := [], dc := Control.reset, streams := Vector.replicate 24 Context.reset
    walker := Walker.reset, receivers := Vector.replicate 12 Receiver.reset
    writers := Vector.replicate 12 .idle, rw := Reporter.reset, port := MemoryPort.reset, freeIndex := 0 }

/-- Why the machine stops with a fault. There is no such reason: the spec gives every command an effect
in every state, and its own faults (FAULTED streams, CAUSE bits, BROKEN) are next states. Safe. -/
inductive Fault where
  deriving DecidableEq, Repr

/-- Why a command has no meaning. -/
inductive Refusal where
  /-- The model gives the command no meaning yet. Raised by no arm of `exec`. Safe. -/
  | notModelled (mnemonic : String)
  deriving DecidableEq, Repr

end Sys2Proof.Machine
end

