-- ==== Sys2Proof/Machine/Operands.lean ====
section
/-! DEFINITION. What the part reads out of the data a read returns: the anchor, the order record, the slot,
the Board header, and the lane frame header (chapter 10). All fields are little-endian. -/

namespace Sys2Proof.Machine

/-- The `bytes`-byte field at byte `offset` of a record. -/
def field {n : Nat} (data : BitVec n) (offset bytes : Nat) : BitVec (8 * bytes) :=
  data.extractLsb' (8 * offset) (8 * bytes)

/-- The byte at `offset` of a record. -/
def byteAt {n : Nat} (data : BitVec n) (offset : Nat) : Byte := field data offset 1

/-- Every byte of a record from `offset` on, for `bytes` bytes, is 0. -/
def zeroBytes {n : Nat} (data : BitVec n) (offset bytes : Nat) : Bool := field data offset bytes == 0

/-- Go on when the test holds, else answer with the failure named. -/
def require {ε : Type} (failure : ε) (test : Bool) : Except ε Unit :=
  if test then .ok () else .error failure

/-- Go on with a decoded value, else answer with the failure named. -/
def decoded {ε α : Type} (failure : ε) : Option α → Except ε α
  | some a => .ok a
  | none => .error failure

/-! ### The anchor (10.3) -/

/-- The fields of an anchor. -/
structure Anchor where
  number : Byte
  kind : Byte
  lane : Byte
  tag : Byte
  window : Byte
  reserved : BitVec 24
  head : Addr
  deriving DecidableEq, Repr

/-- The anchor a 16-byte anchor read returned. -/
def parseAnchor (d : Read16) : Anchor :=
  { number := byteAt d 0, kind := byteAt d 1, lane := byteAt d 2, tag := byteAt d 3
    window := byteAt d 4, reserved := field d 5 3, head := field d 8 8 }

/-! ### The capture order record (10.7) -/

/-- A 128-aligned address. -/
def aligned128 (a : Addr) : Bool := a.toNat % 128 == 0

/-- The link field of an order (bytes 0 to 7). -/
def linkField (d : Read16) : Addr := field d 0 8

/-- The outcome byte the stale check tests (R39). -/
def outcomeByte (d : Read128) : Byte := byteAt d 64

/-- The kind encodings. -/
def OrderKind.ofByte (b : Byte) : Option OrderKind :=
  if b = 1 then some .single else if b = 2 then some .count else if b = 3 then some .open else none

/-- The start encodings. -/
def StartKind.ofByte (b : Byte) : Option StartKind :=
  if b = 1 then some .immediate else if b = 2 then some .edge else if b = 3 then some .mark else none

/-- The gate encodings. -/
def Gate.ofByte (b : Byte) : Option Gate :=
  if b = 0 then some .none else if b = 1 then some .atOrAbove else if b = 2 then some .below else none

/-- The policy encodings. -/
def Policy.ofByte (b : Byte) : Option Policy :=
  if b = 0 then some .strict else if b = 1 then some .seek else none

/-- The edge sense encodings RISE 1, FALL 2, EITHER 3: the byte names one of them. -/
def senseValid (b : Byte) : Bool := b == 1 || b == 2 || b == 3

/-- The sense byte matches a trigger edge's direction (R78). -/
def senseMatches (b : Byte) : Edge → Bool
  | .rise => b == 1 || b == 3
  | .fall => b == 2 || b == 3

/-- Page size in bytes of a page size code (R27). -/
def pageSizeOf (code : Nat) : Nat := 256 * 2 ^ code

/-- Check 4 of a fetch (R40): the order parameters, or the reason of the first step that fails. -/
def parseOrder (d : Read128) : Except Reason OrderParams := do
  let kind ← decoded .badKind (OrderKind.ofByte (byteAt d 8))
  let start ← decoded .badStart (StartKind.ofByte (byteAt d 9))
  let sense := byteAt d 10
  require .badSense (start != .edge || senseValid sense)
  let gate ← decoded .badGate (Gate.ofByte (byteAt d 11))
  let policy ← decoded .badPolicy (Policy.ofByte (byteAt d 12))
  let thin := (byteAt d 13).toNat
  require .badThin (1 ≤ thin && thin ≤ 16)
  let code := (byteAt d 14).toNat
  require .badSize (code ≤ 14)
  let count := (field d 16 2).toNat
  require .badCount (1 ≤ count && count ≤ 256)
  let base : Addr := field d 32 8
  require .baseAlign (base.toNat % pageSizeOf code == 0)
  let table : Addr := field d 40 8
  require .slotAlign (table.toNat % 32 == 0)
  let target : Word := field d 28 4
  require .badTarget (kind != .count || target != 0)
  require .reservedSet (zeroBytes d 15 1 && zeroBytes d 22 2 && zeroBytes d 48 16)
  return { kind, start, sense, gate, policy, thin, sizeCode := code, pageCount := count
           armLimit := field d 18 2, reportInterval := field d 20 2, gateLevel := field d 24 4
           target, pageBase := base, slotTable := table }

/-! ### The slot (10.8) -/

/-- The fill sequence of a slot read. -/
def slotFill (d : Read16) : Half := field d 0 2

/-- The release sequence of a slot read. -/
def slotRelease (d : Read16) : Half := field d 2 2

/-- A page is free when the two sequences of its slot are equal (R54). -/
def slotFree (d : Read16) : Bool := slotRelease d == slotFill d

/-! ### The Board header (10.2) -/

/-- The 512 header bytes from the four parts read. -/
def headerOf : List Read128 → BitVec 4096
  | [a, b, c, d] => d ++ c ++ b ++ a
  | _ => 0

/-- Offset of a lane configuration. -/
def laneConfigAt (k : Lane) : Nat := 0x040 + 16 * k.val

/-- Offset of a window entry. -/
def windowAt (w : WindowIndex) : Nat := 0x100 + 16 * w.val

/-- A quantum in range: 1 to 64 units. -/
def quantumValid (b : Byte) : Bool := 1 ≤ b.toNat && b.toNat ≤ 64

/-- A lane configuration as its bytes encode it, once validated. -/
def laneConfigOf (h : BitVec 4096) (k : Lane) : LaneConfig :=
  let o := laneConfigAt k
  { enabled := byteAt h o == 1
    gauge := if byteAt h (o + 1) = 0 then .sum else if byteAt h (o + 1) = 1 then .peak else .over
    overLevel := field h (o + 2) 2
    policy := if byteAt h (o + 4) = 0 then .dropBad else .keepBad
    quantum := (byteAt h (o + 5)).toNat }

/-- A window entry. -/
def windowOf (h : BitVec 4096) (w : WindowIndex) : Window :=
  { base := field h (windowAt w) 8, granules := field h (windowAt w + 8) 4 }

/-- The size of a window in bytes. -/
def Window.bytes (w : Window) : Nat := w.granules.toNat * 4096

/-- All lanes, in ascending order. -/
def allLanes : List Lane := List.finRange 12

/-- All windows, in ascending order. -/
def allWindows : List WindowIndex := List.finRange 8

/-- All streams, in ascending order. -/
def allStreams : List StreamId := List.finRange 24

/-- Validation of the candidate (R175): the snapshot, or the number of the first step that fails. Steps 4
and 7 admit every value of their field. -/
def parseHeader (h : BitVec 4096) : Except Nat Snapshot := do
  require 1 (field h 0 4 == 1)
  require 2 (allLanes.all fun k => (byteAt h (laneConfigAt k)).toNat ≤ 1)
  require 3 (allLanes.all fun k => (byteAt h (laneConfigAt k + 1)).toNat ≤ 2)
  require 5 (allLanes.all fun k => (byteAt h (laneConfigAt k + 4)).toNat ≤ 1)
  require 6 (allLanes.all fun k => quantumValid (byteAt h (laneConfigAt k + 5)))
  require 8 (allWindows.all fun w =>
    (windowOf h w).granules == 0 || (windowOf h w).base.toNat % 4096 == 0)
  require 9 (allWindows.all fun w =>
    (windowOf h w).granules == 0 || (windowOf h w).base.toNat + (windowOf h w).bytes ≤ 2 ^ 64)
  require 10 (quantumValid (byteAt h 8) && quantumValid (byteAt h 9))
  -- step 11 admits every value of the sweep interval's byte
  require 12 (byteAt h 5 != 0)
  require 13 (16 ≤ (field h 6 2).toNat)
  require 14 (zeroBytes h 0x00A 54
    && (allLanes.all fun k => zeroBytes h (laneConfigAt k + 6) 10)
    && (allWindows.all fun w => zeroBytes h (windowAt w + 12) 4)
    && zeroBytes h 0x180 128)
  return { lanes := Vector.ofFn (laneConfigOf h), windows := Vector.ofFn (windowOf h)
           walkerQuantum := (byteAt h 8).toNat, reporterQuantum := (byteAt h 9).toNat
           sweepInterval := byteAt h 4, refreshInterval := byteAt h 5, responseTimeout := field h 6 2 }

/-! ### Containment (R37) -/

/-- The range of `n` bytes at `a` lies inside a window, the sums formed exactly. -/
def insideWindow (w : Window) (a : Addr) (n : Nat) : Bool :=
  w.granules != 0 && w.base.toNat ≤ a.toNat && a.toNat + n ≤ w.base.toNat + w.bytes

/-! ### The lane frame header (10.9) -/

/-- The fields of a frame header. -/
structure FrameHeader where
  tag : Tag
  mark : Bool
  sourceNumber : Half
  declared : Word
  reservedSet : Bool
  deriving DecidableEq, Repr

/-- The header carried by eight bytes in link order. -/
def parseFrameHeader : List Byte → Option FrameHeader
  | [b0, b1, b2, b3, b4, b5, b6, b7] =>
    some { tag := ⟨b0.toNat % 4, Nat.mod_lt _ (by decide)⟩, mark := b0.getLsbD 2
           sourceNumber := b2 ++ b1, declared := b6 ++ b5 ++ b4 ++ b3
           reservedSet := b0 >>> 3 != 0 || b7 != 0 }
  | _ => none

/-- The header passes its checks (R100): declared length even, 2 to 4,194,304, and no reserved bit set. -/
def FrameHeader.accepted (h : FrameHeader) : Bool :=
  !h.reservedSet && h.declared.toNat % 2 == 0 && 2 ≤ h.declared.toNat
    && h.declared.toNat ≤ Config.maxDeclared

end Sys2Proof.Machine
end

