-- ==== Sys2Proof/Machine/Flags.lean ====
section
/-! DEFINITION. The small computations: CRC, gauge, gate, GAP, slot flags, cause raising. -/

namespace Sys2Proof.Machine

/-! ### The frame CRC (R101) -/

/-- One data bit entering the CRC register. -/
def crcBit (r : Half) (bit : Bool) : Half :=
  if xor r.msb bit then (r <<< 1) ^^^ 0x1021#16 else r <<< 1

/-- One byte entering the CRC register, most significant bit first. -/
def crcByte (r : Half) (b : Byte) : Half :=
  [7, 6, 5, 4, 3, 2, 1, 0].foldl (fun r i => crcBit r (b.getLsbD i)) r

/-- The CRC register when START is taken. -/
def crcStart : Half := 0xFFFF#16

/-! ### The gauge (R111, R112) -/

/-- A 32-bit addition held at 4,294,967,295. -/
def addHeld (a : Word) (n : Nat) : Word :=
  if a.toNat + n < 2 ^ 32 then BitVec.ofNat 32 (a.toNat + n) else BitVec.allOnes 32

/-- The gauge after one more sample. -/
def gaugeSample (kind : GaugeKind) (overLevel : Half) (gauge : Word) (sample : Half) : Word :=
  match kind with
  | .sum => addHeld gauge sample.toNat
  | .peak => if gauge.toNat < sample.toNat then sample.setWidth 32 else gauge
  | .over => if overLevel.toNat < sample.toNat then addHeld gauge 1 else gauge

/-- The gauge after one more payload byte: a low byte waits for its high byte. -/
def gaugeByte (kind : GaugeKind) (overLevel : Half) (g : Gauging) (b : Byte) : Gauging :=
  match g.low with
  | none => { g with low := some b }
  | some lo => { g with gauge := gaugeSample kind overLevel g.gauge (b ++ lo), low := none }

/-! ### The gate (R87) -/

/-- The value for the slot's gauge-or-margin field, or none when the frame fails the gate. -/
def applyGate (gate : Gate) (level gauge : Word) : Option Word :=
  match gate with
  | .none => some gauge
  | .atOrAbove => if level.toNat ≤ gauge.toNat then some (gauge - level) else none
  | .below => if gauge.toNat < level.toNat then some (level - gauge) else none

/-! ### GAP (R68) -/

/-- GAP and by how much source frames missed is to rise, for a frame's number against the stream's last. -/
def gapOf (last : Option Half) (number : Half) : Bool × Half :=
  match last with
  | none => (false, 0)
  | some l => if number - l = 1 then (false, 0) else (true, number - l - 1)

/-! ### Slot flags (R67, 10.8) -/

/-- The flags field of a slot. -/
def slotFlags (check length truncated gap mark margin : Bool) : Half :=
  let bit (b : Bool) (i : Nat) : Half := if b then 1#16 <<< i else 0
  bit check 0 ||| bit length 1 ||| bit truncated 2 ||| bit gap 3 ||| bit mark 4 ||| bit margin 5

/-! ### CAUSE (R161, 10.10) -/

/-- The BOARD_READ bit. -/
def causeBoardRead : BitVec 4 := 1#4
/-- The BOARD_WRITE bit. -/
def causeBoardWrite : BitVec 4 := 2#4
/-- The CONFIG_BAD bit. -/
def causeConfigBad : BitVec 4 := 4#4
/-- The SECOND bit. -/
def causeSecond : BitVec 4 := 8#4

/-- Raising a cause sets its bit, and SECOND as well if CAUSE was nonzero (R161). -/
def raisedCause (cause bit : BitVec 4) : BitVec 4 :=
  cause ||| bit ||| (if cause = 0 then 0 else causeSecond)

/-! ### Time (R184) -/

/-- The time base has reached a time: it is that time or one less than 2^63 microseconds after it, so
that a time set just before the time base wraps is still reached just after (log entry 9). -/
def reached (now due : Time) : Bool := (now - due).toNat < 2 ^ 63

end Sys2Proof.Machine
end

