-- ==== Sys2Proof/Machine/Formats.lean ====
section
/-! DEFINITION. The byte layouts of what the part writes (chapter 10, R185), and a transaction's client,
direction, address, size and data (R120 to R122). -/

namespace Sys2Proof.Machine

/-- The `n` low bytes of a number, least significant first. -/
def leBytes (n v : Nat) : List Byte := (List.range n).map fun i => BitVec.ofNat 8 (v / 256 ^ i)

/-- A field of `n` bytes holding a bit vector. -/
def le {w : Nat} (n : Nat) (v : BitVec w) : List Byte := leBytes n v.toNat

/-- Bytes written 0 (R185). -/
def zeros (n : Nat) : List Byte := List.replicate n 0

/-! ### The device half (10.7) -/

/-- The outcome encodings. -/
def OrderOutcome.code : OrderOutcome → Byte
  | .pending => 0 | .active => 1 | .done => 2 | .cut => 3 | .noTrigger => 4 | .refused => 5
  | .window => 6 | .fault => 7

/-- The reason encodings. -/
def Reason.code : Reason → Byte
  | .none => 0
  | .singleMet => 1 | .countMet => 2 | .halted => 3 | .haltedInFlight => 4 | .armLimit => 5
  | .pastAtEnable => 6
  | .badKind => 16 | .badStart => 17 | .badSense => 18 | .badGate => 19 | .badPolicy => 20
  | .badThin => 21 | .badSize => 22 | .badCount => 23 | .baseAlign => 24 | .slotAlign => 25
  | .badTarget => 26 | .reservedSet => 27
  | .pagesOutside => 32 | .slotsOutside => 33 | .recordOutside => 34
  | .readFault => 48 | .writeFault => 49 | .laneDisabled => 50

/-- Bytes 64 to 127 of an order. -/
def DeviceHalf.bytes (h : DeviceHalf) : List Byte :=
  let c := h.counters
  [h.outcome.code, h.reason.code] ++ le 2 (c.first.getD 0) ++ le 2 (c.last.getD 0) ++ zeros 2
    ++ le 4 c.met ++ le 4 c.passedOver ++ le 4 c.thinned ++ le 4 c.gated ++ le 4 c.held ++ le 4 c.lost
    ++ le 4 c.committed ++ le 4 c.edgesIgnored ++ le 8 h.acceptTime ++ le 8 h.retireTime ++ zeros 8

/-! ### The slot (10.8) -/

/-- Bytes 4 to 31 of a slot. -/
def SlotMeta.bytes (m : SlotMeta) : List Byte :=
  le 2 m.flags ++ le 2 m.sourceNumber ++ le 4 m.length ++ le 4 m.gauge ++ le 4 m.commitIndex
    ++ le 8 m.commitTime ++ zeros 4

/-! ### The stream status record (10.4) -/

/-- The state encodings. -/
def Phase.code : Phase → Byte
  | .fetching _ => 1 | .armed _ _ => 2 | .capturing _ => 3 | .halting _ => 4 | .halted _ => 5
  | .parked _ => 6 | .faulted _ => 7

/-- The state byte. -/
def Standing.code : Standing → Byte
  | .idle => 0
  | .bound _ p => p.code

/-- The request result encodings. -/
def RequestResult.code : RequestResult → Byte
  | .noResult => 0 | .done => 1 | .wrongState => 2 | .bindingTaken => 3 | .laneDisabled => 4
  | .badHead => 5 | .badWindow => 6 | .badField => 7

/-- The fault code encodings. -/
def FaultCode.code : FaultCode → Byte
  | .orderOutside => 1 | .staleOrder => 2 | .linkBad => 3 | .readFault => 4 | .writeFault => 5
  | .laneDisabled => 6

/-- Resume kind: 0 none, 1 FETCH, 2 LINK. -/
def ResumePoint.code : ResumePoint → Byte
  | .fetch _ => 1
  | .link _ _ => 2

/-- The order a resume point names. -/
def ResumePoint.order : ResumePoint → Addr
  | .fetch a => a
  | .link a _ => a

/-- The resume point of FETCHING and HALTED (R1). -/
def Standing.resume? : Standing → Option ResumePoint
  | .bound _ (.fetching r) => some r
  | .bound _ (.halted r) => some r
  | .bound _ (.armed _ _) | .bound _ (.capturing _) | .bound _ (.halting _) | .bound _ (.parked _)
  | .bound _ (.faulted _) | .idle => none

/-- The binding of a stream that is not IDLE (R1). -/
def Standing.binding? : Standing → Option Binding
  | .idle => none
  | .bound b _ => some b

/-- The fault code of a FAULTED stream (R1). -/
def Standing.fault? : Standing → Option FaultCode
  | .bound _ (.faulted c) => some c
  | .bound _ (.fetching _) | .bound _ (.armed _ _) | .bound _ (.capturing _) | .bound _ (.halting _)
  | .bound _ (.halted _) | .bound _ (.parked _) | .idle => none

/-- The current order (R5): exactly in ARMED, CAPTURING and HALTING. -/
def Standing.order? : Standing → Option CurrentOrder
  | .bound _ (.armed o _) => some o
  | .bound _ (.capturing o) => some o
  | .bound _ (.halting o) => some o
  | .bound _ (.fetching _) | .bound _ (.halted _) | .bound _ (.parked _) | .bound _ (.faulted _)
  | .idle => none

/-- The order address field of the status record, by state (10.4). -/
def Standing.orderAddress : Standing → Addr
  | .idle => 0
  | .bound _ (.fetching r) => r.order
  | .bound _ (.armed o _) => o.address
  | .bound _ (.capturing o) => o.address
  | .bound _ (.halting o) => o.address
  | .bound _ (.halted r) => r.order
  | .bound _ (.parked a) => a
  | .bound _ (.faulted _) => 0

/-- A value that is written 0 when absent (R1, R185). -/
def orZero {α : Type} (f : α → Byte) : Option α → Byte
  | some a => f a
  | none => 0

/-- The 64 bytes of a stream status record. -/
def StreamRecord.bytes (r : StreamRecord) : List Byte :=
  let c := r.context
  [c.standing.code, c.acted, c.result.code,
    orZero (fun b => BitVec.ofNat 8 b.lane.val) c.standing.binding?,
    orZero (fun b => BitVec.ofNat 8 b.tag.val) c.standing.binding?,
    orZero (fun b => BitVec.ofNat 8 b.window.val) c.standing.binding?,
    orZero ResumePoint.code c.standing.resume?, orZero FaultCode.code c.standing.fault?]
    ++ le 8 c.standing.orderAddress ++ le 4 c.unclaimed ++ le 4 c.missed
    ++ le 2 (c.lastSource.getD 0) ++ [if c.lastSource.isSome then 1 else 0, 0]
    ++ le 4 r.publication ++ zeros 32

/-! ### The lane status record (10.5) -/

/-- The lock state encodings. -/
def Lock.code : Lock → Byte
  | .off => 0
  | .hunting _ => 1
  | .locked _ => 2

/-- The 32 bytes of a lane status record: nine counters modulo 65536, frames started whole (R145). -/
def LaneRecord.bytes (r : LaneRecord) : List Byte :=
  let c := r.counters
  [r.lock.code, 0] ++ le 2 c.unbound ++ le 2 c.checkFailures ++ le 2 c.lengthErrors ++ le 2 c.badHeaders
    ++ le 2 c.overflows ++ le 2 c.codeViolations ++ le 2 c.lockLosses ++ le 2 c.sourceAborts
    ++ le 2 c.refused ++ le 4 c.framesStarted ++ le 8 r.refreshTime

/-! ### The Summary (10.6) -/

/-- The device state encodings of a Summary. -/
def SummaryState.code : SummaryState → Byte
  | .running => 2 | .quiescing => 3 | .quiet => 4

/-- The 32 bytes of the Summary. -/
def Summary.bytes (r : Summary) : List Byte :=
  le 4 r.reportNumber ++ [r.device.code] ++ zeros 3 ++ le 8 r.time ++ zeros 16

/-! ### Transactions (R120 to R122) -/

/-- The client number of a lane's Lane Writer (R120). -/
def laneClient (k : Lane) : Client := ⟨k.val, by omega⟩
/-- The Chain Walker's client number. -/
def walkerClient : Client := 12
/-- The Report Writer's client number. -/
def reporterClient : Client := 13

/-- The client that makes a transaction. -/
def Txn.client : Txn → Client
  | .slotRead k _ => laneClient k
  | .dataWrite k _ _ => laneClient k
  | .anchorRead _ | .orderRead _ | .linkRead _ | .headerRead _ => walkerClient
  | .metadataWrite _ _ _ | .fillWrite _ _ _ | .deviceHalfWrite _ _ _ _ | .streamStatusWrite _ _
  | .laneStatusWrite _ _ | .summaryWrite _ _ => reporterClient

/-- The direction of a transaction. -/
def Txn.direction : Txn → Direction
  | .slotRead _ _ | .anchorRead _ | .orderRead _ | .linkRead _ | .headerRead _ => .read
  | .dataWrite _ _ _ | .metadataWrite _ _ _ | .fillWrite _ _ _ | .deviceHalfWrite _ _ _ _
  | .streamStatusWrite _ _ | .laneStatusWrite _ _ | .summaryWrite _ _ => .write

/-- The start address of a transaction. A device-half write, which names its order, covers bytes 64 to 127
of the record (R26). -/
def Txn.address : Txn → Addr
  | .slotRead _ a | .dataWrite _ a _ | .anchorRead a | .orderRead a | .linkRead a | .headerRead a
  | .metadataWrite _ a _ | .fillWrite _ a _ | .streamStatusWrite a _
  | .laneStatusWrite a _ | .summaryWrite a _ => a
  | .deviceHalfWrite _ _ order _ => order + 64

/-- The bytes a write carries, from its start address on; none for a read. -/
def Txn.bytes : Txn → List Byte
  | .slotRead _ _ | .anchorRead _ | .orderRead _ | .linkRead _ | .headerRead _ => []
  | .dataWrite _ _ b => b
  | .metadataWrite _ _ m => m.bytes
  | .fillWrite _ _ v => le 2 v
  | .deviceHalfWrite _ _ _ h => h.bytes
  | .streamStatusWrite _ r => r.bytes
  | .laneStatusWrite _ r => r.bytes
  | .summaryWrite _ r => r.bytes

/-- The byte count of a transaction (R121). -/
def Txn.size : Txn → Nat
  | .slotRead _ _ | .anchorRead _ | .linkRead _ => 16
  | .orderRead _ | .headerRead _ => 128
  | .dataWrite _ _ b => b.length
  | .metadataWrite _ _ _ => 28
  | .fillWrite _ _ _ => 2
  | .deviceHalfWrite _ _ _ _ | .streamStatusWrite _ _ => 64
  | .laneStatusWrite _ _ | .summaryWrite _ _ => 32

/-- A read of the Board header (R130). -/
def Txn.isHeaderRead : Txn → Bool
  | .headerRead _ => true
  | .slotRead _ _ | .dataWrite _ _ _ | .anchorRead _ | .orderRead _ | .linkRead _
  | .metadataWrite _ _ _ | .fillWrite _ _ _ | .deviceHalfWrite _ _ _ _ | .streamStatusWrite _ _
  | .laneStatusWrite _ _ | .summaryWrite _ _ => false

/-- The stream whose device half a transaction writes, if it is a device-half write (R139). -/
def Txn.deviceHalfStream? : Txn → Option StreamId
  | .deviceHalfWrite st _ _ _ => some st
  | .slotRead _ _ | .dataWrite _ _ _ | .anchorRead _ | .orderRead _ | .linkRead _ | .headerRead _
  | .metadataWrite _ _ _ | .fillWrite _ _ _ | .streamStatusWrite _ _
  | .laneStatusWrite _ _ | .summaryWrite _ _ => none

/-- The lane whose frame's commit a transaction carries out, if it is a metadata or fill write (R69). -/
def Txn.commitLane? : Txn → Option Lane
  | .metadataWrite k _ _ => some k
  | .fillWrite k _ _ => some k
  | .slotRead _ _ | .dataWrite _ _ _ | .anchorRead _ | .orderRead _ | .linkRead _ | .headerRead _
  | .deviceHalfWrite _ _ _ _ | .streamStatusWrite _ _
  | .laneStatusWrite _ _ | .summaryWrite _ _ => none

/-- The transaction with the mark of a FORGET of `st` taken since it was made (R152). -/
def Txn.disownedBy (st : StreamId) : Txn → Txn
  | .deviceHalfWrite t d a h => .deviceHalfWrite t (d || t == st) a h
  | t => t

/-- The 16-byte beats a transaction occupies (R122): the aligned address of each. -/
def Txn.beats (t : Txn) : List Nat :=
  (List.range ((t.address.toNat % 16 + t.size + 15) / 16)).map
    fun i => 16 * (t.address.toNat / 16 + i)

/-- The byte enables of a write's beat at an aligned address: set for the bytes of the range only (R122). -/
def Txn.byteEnables (t : Txn) (beat : Nat) : List Bool :=
  (List.range 16).map fun i =>
    decide (t.address.toNat ≤ beat + i ∧ beat + i < t.address.toNat + t.size)

end Sys2Proof.Machine
end

