-- ==== Sys2Proof/Machine/Ops.lean ====
section
/-! DEFINITION. The named operations over the state that every block's steps are built from: access to one
block's part, the Report Writer's queue, the pending set, the walker queue, counting, retiring and faulting. -/

namespace Sys2Proof.Machine

/-! ### Access -/

/-- The context of a stream. -/
def State.ctx (s : State) (st : StreamId) : Context := s.streams[st.val]
/-- Replace the context of a stream. -/
def State.setCtx (s : State) (st : StreamId) (c : Context) : State :=
  { s with streams := s.streams.set st.val c }
/-- The standing of a stream. -/
def State.standing (s : State) (st : StreamId) : Standing := (s.ctx st).standing
/-- Replace the standing of a stream, leaving the fields that are always present. -/
def State.setStanding (s : State) (st : StreamId) (x : Standing) : State :=
  s.setCtx st { s.ctx st with standing := x }
/-- The receiver of a lane. -/
def State.lr (s : State) (k : Lane) : Receiver := s.receivers[k.val]
/-- Replace the receiver of a lane. -/
def State.setLr (s : State) (k : Lane) (r : Receiver) : State :=
  { s with receivers := s.receivers.set k.val r }
/-- The Lane Writer of a lane. -/
def State.lw (s : State) (k : Lane) : Writer := s.writers[k.val]
/-- Replace the Lane Writer of a lane. -/
def State.setLw (s : State) (k : Lane) (w : Writer) : State :=
  { s with writers := s.writers.set k.val w }
/-- The current order of a stream (R5). -/
def State.order? (s : State) (st : StreamId) : Option CurrentOrder := (s.standing st).order?

/-- Replace the device state. -/
def State.setDevice (s : State) (d : DeviceState) : State := { s with dc := { s.dc with device := d } }
/-- Replace the last command result (R169). -/
def State.setResult (s : State) (r : CommandResult) : State := { s with dc := { s.dc with result := r } }

/-- The device is RUNNING or QUIESCING, the states in which requests, faults, commits and retirements are
taken (R152, R180). -/
abbrev State.working (s : State) : Prop := s.dc.device = .running ∨ s.dc.device = .quiescing

/-- The time base (R184). -/
def State.now (s : State) : Time := s.dc.timeBase

/-- The Board address (R171). -/
def State.board (s : State) : Addr := s.dc.boardHi ++ s.dc.boardLo

/-- The lane configuration in force, if a snapshot is (R175). -/
def State.laneConfig? (s : State) (k : Lane) : Option LaneConfig :=
  s.dc.snapshot.map fun c => c.lanes[k.val]

/-- The lane is enabled in the snapshot in force. -/
def State.laneEnabled (s : State) (k : Lane) : Bool :=
  match s.laneConfig? k with
  | some c => c.enabled
  | none => false

/-- The window of an index in the snapshot in force; closed without one (R4). -/
def State.window (s : State) (w : WindowIndex) : Window :=
  match s.dc.snapshot with
  | some c => c.windows[w.val]
  | none => ⟨0, 0⟩

/-- A command's effect, but for a part held in reset, which takes no command (R183, log entry 6). -/
def live (f : State → State) (s : State) : Host.Outcome State Fault Refusal :=
  .next (if s.dc.resetAsserted then s else f s)

/-! ### Order geometry (R52) -/

/-- Page size of an order in bytes. -/
def CurrentOrder.pageSize (o : CurrentOrder) : Nat := pageSizeOf o.params.sizeCode
/-- Address of page `i`. -/
def CurrentOrder.pageAddress (o : CurrentOrder) (i : Nat) : Addr :=
  o.params.pageBase + BitVec.ofNat 64 (i * o.pageSize)
/-- Address of slot `i`. -/
def CurrentOrder.slotAddress (o : CurrentOrder) (i : Nat) : Addr :=
  o.params.slotTable + BitVec.ofNat 64 (32 * i)
/-- Bytes of the page set. -/
def OrderParams.pageSetBytes (p : OrderParams) : Nat := p.pageCount * pageSizeOf p.sizeCode
/-- Bytes of the slot table. -/
def OrderParams.slotTableBytes (p : OrderParams) : Nat := 32 * p.pageCount
/-- The page set or slot table that lies outside a window, the page set first (R41). -/
def OrderParams.outside (p : OrderParams) (w : Window) : Option Reason :=
  if !insideWindow w p.pageBase p.pageSetBytes then some .pagesOutside
  else if !insideWindow w p.slotTable p.slotTableBytes then some .slotsOutside
  else none

/-! ### The Report Writer's queue and pending set (R137, R138) -/

/-- A write is made: it enters the RW's write queue at the tail. -/
def enqueue (t : Txn) (s : State) : State := { s with rw := { s.rw with queue := s.rw.queue ++ [t] } }

/-- Several writes made in one step, in order. -/
def enqueueAll (ts : List Txn) (s : State) : State :=
  { s with rw := { s.rw with queue := s.rw.queue ++ ts } }

/-- Additions to the pending set are made outside BROKEN, RESETTING, OFF and LOADING (R138). -/
abbrev State.pendsAllowed (s : State) : Prop :=
  s.dc.device = .running ∨ s.dc.device = .quiescing ∨ s.dc.device = .quiet

/-- Add a stream to the publication-pending set (R138). -/
def pend (st : StreamId) (s : State) : State :=
  if s.pendsAllowed then { s with rw := { s.rw with pendingSet := s.rw.pendingSet.set st.val true } }
  else s

/-- A stream is in the pending set. -/
def State.isPending (s : State) (st : StreamId) : Bool := s.rw.pendingSet[st.val]

/-! ### The walker queue (R32, R35) -/

/-- A stream has a queued job. -/
def hasJob (st : StreamId) (q : List Job) : Bool := q.any fun j => j.stream == st

/-- An attention request: add an ANCHOR job at the tail, or turn the stream's queued job into an ANCHOR
job in its place (R32). -/
def attendQueue (st : StreamId) (q : List Job) : List Job :=
  if hasJob st q then q.map fun j => if j.stream = st then ⟨st, .anchor⟩ else j
  else q ++ [⟨st, .anchor⟩]

/-- The walker takes an attention request. -/
def attend (st : StreamId) (s : State) : State :=
  { s with walker := { s.walker with queue := attendQueue st s.walker.queue } }

/-- The SCT asks for a FETCH or LINK job: made in RUNNING only (R34), absorbed by a queued job (R35). -/
def askJob (st : StreamId) (kind : JobKind) (s : State) : State :=
  if s.dc.device = .running ∧ hasJob st s.walker.queue = false then
    { s with walker := { s.walker with queue := s.walker.queue ++ [⟨st, kind⟩] } }
  else s

/-- The walker puts a job in hand, or ends the one it has. -/
def State.setInHand (s : State) (j : Option JobInHand) : State :=
  { s with walker := { s.walker with inHand := j } }

/-! ### Per-order fields -/

/-- Apply a change to the current order held in a phase. -/
def Phase.mapOrder (f : CurrentOrder → CurrentOrder) : Phase → Phase
  | .armed o d => .armed (f o) d
  | .capturing o => .capturing (f o)
  | .halting o => .halting (f o)
  | .fetching r => .fetching r
  | .halted r => .halted r
  | .parked a => .parked a
  | .faulted c => .faulted c

/-- Apply a change to the current order of a standing, if it has one. -/
def Standing.mapOrder (f : CurrentOrder → CurrentOrder) : Standing → Standing
  | .idle => .idle
  | .bound b p => .bound b (p.mapOrder f)

/-- Apply a change to a stream's current order, if it has one. -/
def mapOrder (st : StreamId) (f : CurrentOrder → CurrentOrder) (s : State) : State :=
  s.setStanding st ((s.standing st).mapOrder f)

/-- Apply a change to the working counters of a stream's current order (R89). -/
def count (st : StreamId) (f : Counters → Counters) (s : State) : State :=
  mapOrder st (fun o => { o with counters := f o.counters }) s

/-- A frame is counted lost (R90). -/
def Counters.addLost (c : Counters) : Counters := { c with lost := c.lost + 1 }
/-- A frame is counted held and lost (R60). -/
def Counters.addHeld (c : Counters) : Counters := { c with held := c.held + 1, lost := c.lost + 1 }
/-- A frame is counted gated (R87). -/
def Counters.addGated (c : Counters) : Counters := { c with gated := c.gated + 1 }

/-- A bound stream enters another of its states, keeping its binding; the change is pended (R138). -/
def enter (st : StreamId) (p : Phase) (s : State) : State :=
  match s.standing st with
  | .idle => s
  | .bound b _ => pend st (s.setStanding st (.bound b p))

/-! ### Device-half writes, retirement and faults (R29, R45, R152) -/

/-- The device half a write of an order carries. -/
def CurrentOrder.half (o : CurrentOrder) (outcome : OrderOutcome) (reason : Reason) (retireTime : Time) :
    DeviceHalf :=
  { outcome, reason, counters := o.counters, acceptTime := o.acceptTime, retireTime }

/-- A device-half write is handed to the RW (R43, R45, R72). -/
def handHalf (st : StreamId) (address : Addr) (h : DeviceHalf) (s : State) : State :=
  enqueue (.deviceHalfWrite st false address h) s

/-- The current order is retired: its retirement write is handed to the RW and the stream enters the
state its outcome gives (R8, R45). -/
def retire (st : StreamId) (outcome : OrderOutcome) (reason : Reason) (next : CurrentOrder → Phase)
    (s : State) : State :=
  match s.order? st with
  | none => s
  | some o => handHalf st o.address (o.half outcome reason s.now) (enter st (next o) s)

/-- The link step of a retired order, not ready until its retirement is published (R46). -/
def linkOf (o : CurrentOrder) : ResumePoint := .link o.address false

/-- A stream fault: the fault step of R152, or a second fault (R158), which only pends the stream. -/
def streamFault (st : StreamId) (code : FaultCode) (s : State) : State :=
  match s.standing st with
  | .idle => s
  | .bound _ (.faulted _) => pend st s
  | .bound b _ => pend st (s.setStanding st (.bound b (.faulted code)))

/-- The reason beside outcome FAULT for a fault code that retires an order (R154, R157). -/
def FaultCode.reason : FaultCode → Reason
  | .readFault => .readFault
  | .writeFault => .writeFault
  | .laneDisabled => .laneDisabled
  | .orderOutside | .staleOrder | .linkBad => .none

/-! ### The interrupt output (R149) and the registers read (R167, R168) -/

/-- The interrupt output: asserted exactly while IRQ enable is on and the report number differs from SEEN
or CAUSE is nonzero (R149), and low while the reset input is asserted (R183). -/
def irqOutput (s : State) : Bool :=
  !s.dc.resetAsserted && s.dc.irqEnable && (s.rw.reportNumber != s.dc.seen || s.dc.cause != 0)

/-- The device state field of STATE (10.10). -/
def DeviceState.code : DeviceState → Nat
  | .off => 0 | .loading _ => 1 | .running => 2 | .quiescing => 3 | .quiet => 4 | .resetting => 5
  | .broken => 6

/-- The command result field of STATE (10.10). -/
def CommandResult.code : CommandResult → Nat
  | .taken => 0 | .refused => 1 | .ignored => 2 | .badStream => 3

/-- The STATE register (R168, 10.10). The outstanding count does not include expired transactions. -/
def stateRegister (s : State) : Word :=
  BitVec.ofNat 32 (s.dc.device.code + s.dc.result.code * 2 ^ 4 + (if s.dc.irqEnable then 2 ^ 8 else 0)
    + s.port.table.length * 2 ^ 16)

/-- What a read of the Register Port returns (R167): the whole register that the offset lies in. -/
def readRegister (offset : BitVec 5) (s : State) : Word :=
  match offset.toNat / 4 with
  | 0 => Config.ident
  | 2 => stateRegister s
  | 3 => s.dc.boardLo
  | 4 => s.dc.boardHi
  | 6 => s.dc.seen
  | 7 => s.dc.cause.setWidth 32
  | _ => 0

end Sys2Proof.Machine
end

