-- ==== Sys2Proof/Machine/Frames.lean ====
section
/-! DEFINITION. Frames in flight: the shared operations of the Lane Writers and the Stream Context Table on
the frame a lane's writer holds (chapter 3, R75, R76, R154 to R156). -/

namespace Sys2Proof.Machine

/-! ### Who holds what -/

/-- The stream of a frame being dropped. -/
def DroppedFrame.stream (d : DroppedFrame) : StreamId := d.frame.stream

/-- The stream whose frame in flight a Lane Writer holds (R56). A frame kept after a FORGET of its stream
is no frame in flight of the stream's next life (R159). -/
def Writer.stream? : Writer → Option StreamId
  | .idle => none
  | .searching f _ _ _ => some f.stream
  | .placing f _ => some f.stream
  | .closing f _ => some f.stream
  | .committing f _ _ _ => some f.stream
  | .dropping d => if d.disowned then none else some d.stream

/-- The stream has a frame in flight (R1, R18, R56). -/
def frameInFlight (st : StreamId) (s : State) : Bool :=
  match (s.standing st).binding? with
  | none => false
  | some b => (s.lw b.lane).stream? == some st

/-- A frame in flight as the stream's context holds it (R1): the slot index once bound, and the slot flags
gathered so far. -/
structure FrameInFlight where
  slot : Option Nat
  flags : Half
  deriving DecidableEq, Repr

/-- The slot flags a frame has gathered so far (R1, R67). -/
def FlightFrame.flags (f : FlightFrame) : Half :=
  slotFlags ((f.ended.map FrameEnd.check).getD false) ((f.ended.map FrameEnd.length).getD false) f.truncated
    f.gap f.mark f.margin

/-- The frame in flight a Lane Writer holds, whatever its state (R56). -/
def Writer.inFlight : Writer → Option FrameInFlight
  | .idle => none
  | .searching f _ _ _ => some ⟨none, f.flags⟩
  | .placing f p => some ⟨some p.slot, f.flags⟩
  | .closing f p => some ⟨some p.slot, f.flags⟩
  | .committing f p _ _ => some ⟨some p.slot, f.flags⟩
  | .dropping d => some ⟨d.slot, d.frame.flags⟩

/-- A Lane Writer still holds a frame of a stream forgotten since it was offered (R159). -/
def Writer.holdsForgotten (st : StreamId) : Writer → Bool
  | .idle | .searching _ _ _ _ | .placing _ _ | .closing _ _ | .committing _ _ _ _ => false
  | .dropping d => d.disowned && d.stream == st

/-- The frame in flight of a stream's context (R1): that of its lane's writer, or, after a FORGET, that of
the writer which still holds the frame. Where two writers still hold forgotten frames of one stream, the
lowest lane's is taken: the spec is silent, the choice is the model's (log entry 36). -/
def frameInFlight? (st : StreamId) (s : State) : Option FrameInFlight :=
  match s.standing st with
  | .idle => (allLanes.find? fun k => (s.lw k).holdsForgotten st).bind fun k => (s.lw k).inFlight
  | .bound b _ => if (s.lw b.lane).stream? = some st then (s.lw b.lane).inFlight else none

/-- A FAULT retirement of the stream is decided and waits to be handed to the RW (R139, R154). -/
def retirementWaiting (st : StreamId) (s : State) : Bool :=
  allLanes.any fun k =>
    match s.lw k with
    | .dropping d => d.retirement.isSome && d.stream == st
    | .idle | .searching _ _ _ _ | .placing _ _ | .closing _ _ | .committing _ _ _ _ => false

/-! ### Staging seen from the writer -/

/-- Change the accepted frame inside an open frame. -/
def OpenFrame.mapFrame (f : AcceptedFrame → AcceptedFrame) : OpenFrame → OpenFrame
  | .header b c => .header b c
  | .body a => .body (f a)
  | .crc a b => .crc (f a) b

/-- The receiver stops staging the frame (R60, R106). -/
def AcceptedFrame.stopStaging (a : AcceptedFrame) : AcceptedFrame :=
  match a.disposition with
  | .offered g => { a with disposition := .offered { g with staging := false } }
  | .discarded | .followed => a

/-- The writer discards the lane's staged bytes and tells the receiver to stop staging (R109). -/
def stopStaging (k : Lane) (s : State) : State :=
  s.setLr k { s.lr k with
    staging := Staging.empty, frame := (s.lr k).frame.map (OpenFrame.mapFrame AcceptedFrame.stopStaging) }

/-- Bytes leave the head of staging (R107, R109). -/
def Staging.take (g : Staging) (n : Nat) : Staging :=
  if g.bytes.length ≤ n then Staging.empty
  else ⟨g.bytes.drop n, (g.headLeft + n) % Config.chunkBytes⟩

/-- Chunks in use (R107). -/
def Staging.chunksInUse (g : Staging) : Nat :=
  (g.headLeft + g.bytes.length + Config.chunkBytes - 1) / Config.chunkBytes

/-- There is room for a byte: the tail chunk holds fewer than 64 bytes, or fewer than 64 chunks are in
use (R108). -/
def Staging.hasRoom (g : Staging) : Bool :=
  (g.headLeft + g.bytes.length) % Config.chunkBytes != 0 || g.chunksInUse < Config.chunkCount

/-- A lane is urgent (R110). -/
def urgent (k : Lane) (s : State) : Bool := Config.urgentBytes ≤ (s.lr k).staging.bytes.length

/-! ### Dropping a frame -/

/-- A HALTING stream's frame in flight has ended without completing the order: the order is retired CUT
and the stream enters HALTED (R19, R56). -/
def haltingEnd (k : Lane) (st : StreamId) (s : State) : State :=
  match s.standing st with
  | .bound b (.halting _) =>
    if b.lane = k then retire st .cut .haltedInFlight (fun o => .halted (linkOf o)) s else s
  | .bound _ (.fetching _) | .bound _ (.armed _ _) | .bound _ (.capturing _) | .bound _ (.halted _)
  | .bound _ (.parked _) | .bound _ (.faulted _) | .idle => s

/-- A dropped frame whose transactions have all ended: the writer returns to IDLE. A loss still to be
counted is counted (R65), a HALTING stream goes on (R19), and a waiting FAULT retirement is handed to the
RW (R154, R159). In RESETTING and BROKEN nothing more is done (R76). -/
def finishDrop (k : Lane) (d : DroppedFrame) (s : State) : State :=
  let s := s.setLw k .idle
  if s.working then
    let s := if d.countLost && !d.disowned then count d.stream Counters.addLost s else s
    let s := if d.disowned then s else haltingEnd k d.stream s
    match d.retirement with
    | none => s
    | some (a, h) => pend d.stream (enqueue (.deviceHalfWrite d.stream d.disowned a h) s)
  else s

/-- The writer is in DROPPING, or returns to IDLE if it awaits nothing (R56). -/
def setDrop (k : Lane) (d : DroppedFrame) (s : State) : State :=
  if d.outstanding = 0 then finishDrop k d s else s.setLw k (.dropping d)

/-- The writer drops its frame: staging is emptied and no further transaction is issued. -/
def startDrop (k : Lane) (d : DroppedFrame) (s : State) : State := setDrop k d (stopStaging k s)

/-- A drop with nothing but transactions to await. -/
def plainDrop (f : FlightFrame) (slot : Option Nat) (outstanding : Nat) : DroppedFrame :=
  { frame := f, slot, outstanding, countLost := false, retirement := none, disowned := false }

/-- A transaction that a DROPPING writer awaits has ended. -/
def dropAnswered (k : Lane) (s : State) : State :=
  match s.lw k with
  | .dropping d => setDrop k { d with outstanding := d.outstanding - 1 } s
  | .idle | .searching _ _ _ _ | .placing _ _ | .closing _ _ | .committing _ _ _ _ => s

/-- The writer's frame as one being dropped, nothing of it to count or to retire, with the transactions
it is to await (R76, R156). -/
def Writer.dropped (outstanding : Nat) : Writer → Option DroppedFrame
  | .idle => none
  | .searching f _ _ _ => some (plainDrop f none outstanding)
  | .placing f p => some (plainDrop f (some p.slot) outstanding)
  | .closing f p => some (plainDrop f (some p.slot) outstanding)
  | .committing f p _ _ => some (plainDrop f (some p.slot) outstanding)
  | .dropping d => some { plainDrop d.frame d.slot outstanding with disowned := d.disowned }

/-- Transactions a writer waits for when its frame is abandoned, the write of a commit in progress among
them (R156). -/
def Writer.awaited : Writer → Nat
  | .idle => 0
  | .searching _ _ _ issued => if issued then 1 else 0
  | .placing _ p => p.outstanding
  | .closing _ p => p.outstanding
  | .committing _ _ _ _ => 1
  | .dropping d => d.outstanding

/-- The frame of a stream faulted by another transaction is abandoned and counted in no class (R156). -/
def abandonFrame (k : Lane) (st : StreamId) (s : State) : State :=
  if (s.lw k).stream? = some st then
    match (s.lw k).dropped (s.lw k).awaited with
    | some d => startDrop k d s
    | none => s
  else s

/-! ### Losing a frame -/

/-- Why a receiver reports a loss (R106). -/
inductive LossReason where
  | overflow
  | linkLost
  | sourceAbort
  | violation
  | lengthByStart
  /-- CHECK, LENGTH or both, found at the checks under DROP_BAD. -/
  | checks (check length : Bool)
  deriving DecidableEq, Repr

/-- The SCT takes a lane loss. In a search it is counted at once (R62); after binding it is counted when
the data writes issued have responded (R65); with no frame in flight it is disregarded (R106). No reason
makes a difference to it. -/
def reportLoss (k : Lane) (_reason : LossReason) (s : State) : State :=
  match s.lw k with
  | .searching f _ _ issued =>
    startDrop k (plainDrop f none (if issued then 1 else 0)) (count f.stream Counters.addLost s)
  | .placing f p => startDrop k { plainDrop f (some p.slot) p.outstanding with countLost := true } s
  | .closing f p => startDrop k { plainDrop f (some p.slot) p.outstanding with countLost := true } s
  | .idle | .committing _ _ _ _ | .dropping _ => s

/-- A port fault on a transaction of the frame in flight: the frame is counted lost unless it has been,
the stream is faulted, and the FAULT retirement waits for the writer (R154). -/
def faultFrame (k : Lane) (f : FlightFrame) (slot : Option Nat) (code : FaultCode) (counted : Bool)
    (outstanding : Nat) (s : State) : State :=
  let st := f.stream
  let s := if counted then s else count st Counters.addLost s
  let retirement := (s.order? st).map fun o => (o.address, o.half .fault code.reason s.now)
  startDrop k { plainDrop f slot outstanding with retirement } (streamFault st code s)

/-- A port fault on a transaction that a DROPPING writer awaits: disregarded after a FORGET (R152), a
second fault on a FAULTED stream (R158), else the frame's fault (R62, R65). -/
def faultDropped (k : Lane) (d : DroppedFrame) (code : FaultCode) (s : State) : State :=
  let d' := { d with outstanding := d.outstanding - 1 }
  if d.disowned then setDrop k d' s
  else if (s.standing d.stream).fault?.isSome then setDrop k d' (pend d.stream s)
  else faultFrame k d.frame d.slot code (!d.countLost) d'.outstanding s

/-- A port fault on a slot read, a data write or a commit's write reaches the lane's frame. Outside
RUNNING and QUIESCING it is awaited only (R76, R133). -/
def frameTxnFault (k : Lane) (code : FaultCode) (s : State) : State :=
  if s.working then
    match s.lw k with
    | .idle => s
    | .searching f _ _ _ => faultFrame k f none code false 0 s
    | .placing f p => faultFrame k f (some p.slot) code false (p.outstanding - 1) s
    | .closing f p => faultFrame k f (some p.slot) code false (p.outstanding - 1) s
    | .committing f p _ _ => faultFrame k f (some p.slot) code false 0 s
    | .dropping d => faultDropped k d code s
  else dropAnswered k s

/-! ### Frame end and commit -/

/-- The slot metadata of a frame to be committed (R67). -/
def slotMetaOf (o : CurrentOrder) (f : FlightFrame) (p : Placement) (value : Word) (now : Time) : SlotMeta :=
  { flags := f.flags, sourceNumber := f.sourceNumber, length := BitVec.ofNat 32 p.offset, gauge := value
    commitIndex := o.counters.committed + 1, commitTime := now }

/-- The commit is handed to the RW, which makes the metadata write of slot bytes 4 to 31 (R66, R69); GAP
and MARGIN are known from here on (R67, R68). -/
def commitFrame (k : Lane) (o : CurrentOrder) (f : FlightFrame) (p : Placement) (value : Word)
    (s : State) : State :=
  let g := gapOf (s.ctx f.stream).lastSource f.sourceNumber
  let f := { f with gap := g.1, margin := o.params.gate != .none }
  enqueue (.metadataWrite k (o.slotAddress p.slot + 4) (slotMetaOf o f p value s.now))
    (s.setLw k (.committing f p .metadata g.2))

/-- The frame-end decision (R66): taken in CLOSING once END is reported and every data write has
responded. The frame fails the gate and is counted gated, or is committed. -/
def frameDecision (k : Lane) (s : State) : State :=
  match s.lw k with
  | .closing f p =>
    match f.ended, s.order? f.stream with
    | some e, some o =>
      if p.outstanding = 0 then
        match applyGate o.params.gate o.params.gateLevel e.gauge with
        | none => haltingEnd k f.stream (count f.stream Counters.addGated (s.setLw k .idle))
        | some value => commitFrame k o f p value s
      else s
    | some _, none | none, some _ | none, none => s
  | .idle | .searching _ _ _ _ | .placing _ _ | .committing _ _ _ _ | .dropping _ => s

/-- A PLACING writer enters CLOSING when the page end has been reached, or END has been reported and no
payload byte is left to issue (R63); the frame-end decision follows if it is due. -/
def advance (k : Lane) (s : State) : State :=
  match s.lw k with
  | .placing f p =>
    match s.order? f.stream with
    | some o =>
      if p.offset = o.pageSize ∨ (f.ended.isSome ∧ (s.lr k).staging.bytes = []) then
        frameDecision k (s.setLw k (.closing f p))
      else s
    | none => s
  | .idle | .searching _ _ _ _ | .closing _ _ | .committing _ _ _ _ | .dropping _ => s

/-- The SCT takes a frame end with its gauge and flags (R62, R66). With no frame in flight it is
disregarded (R106). -/
def reportEnd (k : Lane) (e : FrameEnd) (s : State) : State :=
  match s.lw k with
  | .searching f i n issued => s.setLw k (.searching { f with ended := some e } i n issued)
  | .placing f p => advance k (s.setLw k (.placing { f with ended := some e } p))
  | .closing f p => frameDecision k (s.setLw k (.closing { f with ended := some e } p))
  | .idle | .committing _ _ _ _ | .dropping _ => s

/-- The counters after a commit of a frame with the given number (R70). -/
def Counters.addCommit (c : Counters) (number : Half) : Counters :=
  { c with committed := c.committed + 1, first := some (c.first.getD number), last := some number }

/-- The order after a commit into slot `slot` (R70). -/
def CurrentOrder.addCommit (o : CurrentOrder) (slot : Nat) (number : Half) : CurrentOrder :=
  { o with
    counters := o.counters.addCommit number, cursor := (slot + 1) % o.params.pageCount
    commitsSince := o.commitsSince + 1 }

/-- The completion test (R73). -/
def CurrentOrder.completed (o : CurrentOrder) : Option Reason :=
  match o.params.kind with
  | .single => some .singleMet
  | .count => if o.counters.committed = o.params.target then some .countMet else none
  | .open => none

/-- The progress test (R72): at the interval the counter is set to 0 and a progress write is made. -/
def progress (st : StreamId) (s : State) : State :=
  match s.order? st with
  | none => s
  | some o =>
    if o.params.reportInterval ≠ 0 ∧ o.commitsSince = o.params.reportInterval then
      pend st (handHalf st o.address (o.half .active .none 0)
        (mapOrder st (fun o => { o with commitsSince := 0 }) s))
    else s

/-- What follows a completed commit: the completion test, the progress test if the order is not retired
(R70, R72, R73), and the step of a HALTING stream (R19), which retires the order either way. -/
def afterCommit (st : StreamId) (s : State) : State :=
  match s.standing st with
  | .bound _ (.halting o) =>
    match o.completed with
    | some r => retire st .done r (fun o => .halted (linkOf o)) s
    | none => retire st .cut .haltedInFlight (fun o => .halted (linkOf o)) s
  | .bound _ (.capturing o) =>
    match o.completed with
    | some r => retire st .done r (fun o => .fetching (linkOf o)) s
    | none => progress st s
  | .bound _ (.fetching _) | .bound _ (.armed _ _) | .bound _ (.halted _) | .bound _ (.parked _)
  | .bound _ (.faulted _) | .idle => s

/-- A commit completes (R70). -/
def completeCommit (k : Lane) (f : FlightFrame) (p : Placement) (missedBy : Half) (s : State) : State :=
  let c := s.ctx f.stream
  let s := s.setCtx f.stream { c with
    standing := c.standing.mapOrder (fun o => o.addCommit p.slot f.sourceNumber)
    lastSource := some f.sourceNumber, missed := c.missed + missedBy.setWidth 32 }
  afterCommit f.stream (s.setLw k .idle)

/-! ### Page search -/

/-- The frame is bound to a free slot (R61). Bytes already staged past the page size are discarded and
mark the frame TRUNCATED (R64). -/
def bindFrame (k : Lane) (o : CurrentOrder) (f : FlightFrame) (slot : Nat) (fill : Half) (s : State) :
    State :=
  let staged := (s.lr k).staging
  let excess := decide (o.pageSize < staged.bytes.length)
  let s := mapOrder f.stream (fun o => { o with cursor := slot }) s
  let s := s.setLr k { s.lr k with staging := { staged with bytes := staged.bytes.take o.pageSize } }
  advance k (s.setLw k (.placing { f with truncated := f.truncated || excess }
    { slot, page := o.pageAddress slot, fill, offset := 0, outstanding := 0 }))

/-- A slot read answered: a free slot binds the frame; a held one leads to the next slot under SEEK, or
ends the search held and lost (R59, R60). -/
def searchAnswered (k : Lane) (data : Read16) (f : FlightFrame) (slot read : Nat) (s : State) : State :=
  match s.order? f.stream with
  | none => s
  | some o =>
    if slotFree data then bindFrame k o f slot (slotFill data) s
    else if o.params.policy = .seek ∧ read + 1 < o.params.pageCount then
      s.setLw k (.searching f ((slot + 1) % o.params.pageCount) (read + 1) false)
    else startDrop k (plainDrop f none 0) (count f.stream Counters.addHeld s)

/-- A data write leaves the count of a PLACING or CLOSING writer (R63). -/
def dataWriteOk (k : Lane) (s : State) : State :=
  match s.lw k with
  | .placing f p => s.setLw k (.placing f { p with outstanding := p.outstanding - 1 })
  | .closing f p => frameDecision k (s.setLw k (.closing f { p with outstanding := p.outstanding - 1 }))
  | .dropping _ => dropAnswered k s
  | .idle | .searching _ _ _ _ | .committing _ _ _ _ => s

/-- A slot read's data reaches the writer; a DROPPING writer discards it (R62). -/
def slotReadOk (k : Lane) (data : Read16) (s : State) : State :=
  match s.lw k with
  | .searching f slot read true => searchAnswered k data f slot read s
  | .dropping _ => dropAnswered k s
  | .searching _ _ _ false | .idle | .placing _ _ | .closing _ _ | .committing _ _ _ _ => s

/-- The metadata write has responded OK: the fill sequence write is made (R69), but for an abandoned
frame (R76, R156). -/
def metadataOk (k : Lane) (s : State) : State :=
  match s.lw k with
  | .committing f p .metadata m =>
    match s.order? f.stream with
    | some o =>
      enqueue (.fillWrite k (o.slotAddress p.slot) (p.fill + 1)) (s.setLw k (.committing f p .fill m))
    | none => s
  | .dropping _ => dropAnswered k s
  | .committing _ _ .fill _ | .idle | .searching _ _ _ _ | .placing _ _ | .closing _ _ => s

/-- The fill sequence write has responded OK: the commit completes, but for an abandoned frame (R156). -/
def fillOk (k : Lane) (s : State) : State :=
  match s.lw k with
  | .committing f p .fill m => completeCommit k f p m s
  | .dropping _ => dropAnswered k s
  | .committing _ _ .metadata _ | .idle | .searching _ _ _ _ | .placing _ _ | .closing _ _ => s

end Sys2Proof.Machine
end

