-- ==== Sys2Proof/Machine/Port.lean ====
section
/-! DEFINITION. The Memory Port (chapter 6): presented requests, eligibility, the arbiter, issue, and the
matching of responses; the meanings of GRANT, ISSUE_ACCEPTED and LATE_RESPONSE. -/

namespace Sys2Proof.Machine

/-! ### Presented requests (R120) -/

/-- The data write a PLACING writer presents (R63): one of the greatest length allowed once that many
bytes are staged, else, once END is reported, all that is staged. -/
def dataWriteOf (pageSize : Nat) (f : FlightFrame) (p : Placement) (staged : List Byte) :
    Option (Addr × List Byte) :=
  let a := p.page + BitVec.ofNat 64 p.offset
  let most := min Config.maxDataWrite (min (4096 - a.toNat % 4096) (pageSize - p.offset))
  if most = 0 then none
  else if most ≤ staged.length then some (a, staged.take most)
  else if f.ended.isSome ∧ staged ≠ [] then some (a, staged)
  else none

/-- The request a Lane Writer presents: its next slot read or data write. -/
def laneRequest (k : Lane) (s : State) : Option Txn :=
  match s.lw k with
  | .searching f slot _ false => (s.order? f.stream).map fun o => .slotRead k (o.slotAddress slot)
  | .placing f p =>
    match s.order? f.stream with
    | some o =>
      (dataWriteOf o.pageSize f p (s.lr k).staging.bytes).map fun w => .dataWrite k w.1 w.2
    | none => none
  | .searching _ _ _ true | .idle | .closing _ _ | .committing _ _ _ _ | .dropping _ => none

/-- Address of a stream's anchor (10.1). -/
def anchorAddress (st : StreamId) (s : State) : Addr := s.board + BitVec.ofNat 64 (0x200 + 16 * st.val)

/-- The request the Chain Walker presents: the next Board header read in LOADING (R174), else the read of
the job in hand. -/
def walkerRequest (s : State) : Option Txn :=
  match s.dc.device with
  | .loading l =>
    if l.issued then none else some (.headerRead (s.board + BitVec.ofNat 64 (128 * l.parts.length)))
  | .off | .running | .quiescing | .quiet | .resetting | .broken =>
    match s.walker.inHand with
    | none => none
    | some j =>
      match j.stage with
      | .anchorRead false => some (.anchorRead (anchorAddress j.job.stream s))
      | .orderRead a false => some (.orderRead a)
      | .linkRead a false => some (.linkRead a)
      | .anchorRead true | .orderRead _ true | .linkRead _ true | .awaitWrites _ _ => none

/-- The request a client presents to the port (R120). The Report Writer's is the head of its queue. -/
def request (c : Client) (s : State) : Option Txn :=
  if h : c.val < 12 then laneRequest ⟨c.val, h⟩ s
  else if c = walkerClient then walkerRequest s
  else s.rw.queue.head?

/-! ### Eligibility (R123, R133) -/

/-- Outstanding transactions of a direction. -/
def outstanding (d : Direction) (s : State) : Nat :=
  s.port.table.countP fun e => e.txn.direction == d

/-- The limit on outstanding transactions of a direction (R123). -/
def outstandingLimit : Direction → Nat
  | .read => Config.maxReads
  | .write => Config.maxWrites

/-- The expired count of a client and direction (R131). -/
def State.expired (s : State) (c : Client) : Direction → Byte
  | .read => s.port.expiredReads[c.val]
  | .write => s.port.expiredWrites[c.val]

/-- Replace an expired count. -/
def State.setExpired (s : State) (c : Client) (d : Direction) (v : Byte) : State :=
  match d with
  | .read => { s with port := { s.port with expiredReads := s.port.expiredReads.set c.val v } }
  | .write => { s with port := { s.port with expiredWrites := s.port.expiredWrites.set c.val v } }

/-- The device state allows grants (R133). -/
def grantsAllowed : DeviceState → Bool
  | .off | .loading _ | .running | .quiescing | .quiet => true
  | .resetting | .broken => false

/-- The request a client presents, if it is eligible (R123). -/
def eligible (c : Client) (s : State) : Option Txn :=
  match request c s with
  | none => none
  | some t =>
    if grantsAllowed s.dc.device ∧ outstanding t.direction s < outstandingLimit t.direction
        ∧ (s.expired c t.direction).toNat < 255 then some t
    else none

/-! ### Arbitration (R124 to R126) -/

/-- A client's quantum in bytes (R126). -/
def quantumBytes (c : Client) (s : State) : Nat :=
  64 * (match s.dc.snapshot with
    | none => Config.resetQuantum
    | some n =>
      if h : c.val < 12 then n.lanes[c.val].quantum
      else if c = walkerClient then n.walkerQuantum else n.reporterQuantum)

/-- The next client in ring order. -/
def nextClient (c : Client) : Client := ⟨(c.val + 1) % 14, Nat.mod_lt _ (by decide)⟩

/-- The next lane after one, wrapping from 11 to 0. -/
def nextLane (k : Lane) : Lane := ⟨(k.val + 1) % 12, Nat.mod_lt _ (by decide)⟩

/-- The lanes in ascending order from a lane on, wrapping. -/
def lanesFrom (k : Lane) : List Lane :=
  (List.range 12).map fun i => ⟨(k.val + i) % 12, Nat.mod_lt _ (by decide)⟩

/-- The urgent stage's choice (R124): the first urgent lane from the urgent pointer on whose Lane Writer
has an eligible request. -/
def urgentChoice (s : State) : Option Lane :=
  (lanesFrom s.port.urgentPointer).find? fun k => urgent k s && (eligible (laneClient k) s).isSome

/-- Deficit round-robin arrives at client after client (R125 steps 2 and 3) until a request is granted.
`sizes` gives each client's eligible request by size. The answer is the client granted and the deficits
after the grant. The fuel bounds the walk. -/
def arrive (sizes : Client → Option Nat) (quanta : Client → Nat) : Nat → Client → Vector Nat 14 →
    Option (Client × Vector Nat 14)
  | 0, _, _ => none
  | n + 1, c, d =>
    match sizes c with
    | none => arrive sizes quanta n (nextClient c) (d.set c.val 0)
    | some size =>
      let deficit := d[c.val] + quanta c
      if size ≤ deficit then some (c, d.set c.val (deficit - size))
      else arrive sizes quanta n (nextClient c) (d.set c.val deficit)

/-- Fuel for `arrive`: a request of at most 256 bytes is reached within four rounds of quanta of at least
64 bytes, and one client more (R125). -/
def arriveFuel : Nat := 64

/-- Deficit round-robin (R125): a visit in progress continues if the client's request fits its deficit;
otherwise it ends, and the walk goes on from the next client. -/
def roundRobin (sizes : Client → Option Nat) (quanta : Client → Nat) (position : Option Client)
    (d : Vector Nat 14) : Option (Client × Vector Nat 14) :=
  match position with
  | none => arrive sizes quanta arriveFuel 0 d
  | some c =>
    match sizes c with
    | none => arrive sizes quanta arriveFuel (nextClient c) (d.set c.val 0)
    | some size =>
      if size ≤ d[c.val] then some (c, d.set c.val (d[c.val] - size))
      else arrive sizes quanta arriveFuel (nextClient c) d

/-- The sizes of the eligible requests. -/
def eligibleSize (s : State) (c : Client) : Option Nat := (eligible c s).map Txn.size

/-- The arbiter's choice (R124, R125): the client granted and the port's arbitration state after it. -/
def arbitrate (s : State) : Option (Client × MemoryPort) :=
  match urgentChoice s with
  | some k => some (laneClient k, { s.port with urgentPointer := nextLane k })
  | none =>
    (roundRobin (eligibleSize s) (fun c => quantumBytes c s) s.port.position s.port.deficits).map
      fun r => (r.1, { s.port with deficits := r.2, position := some r.1 })

/-! ### Issue (R120, R130) -/

/-- The response timeout a transaction is issued with (R130, R134). -/
def timeoutOf (t : Txn) (s : State) : Nat :=
  if t.isHeaderRead then Config.headerTimeout
  else match s.dc.snapshot with
    | some n => n.responseTimeout.toNat
    | none => Config.headerTimeout

/-- The read of the job in hand has been issued. -/
def JobStage.issue : JobStage → JobStage
  | .anchorRead _ => .anchorRead true
  | .orderRead a _ => .orderRead a true
  | .linkRead a _ => .linkRead a true
  | .awaitWrites a n => .awaitWrites a n

/-- What the issue of its request does at the client. A data write's bytes leave staging (R63, R109). -/
def clientIssued (t : Txn) (s : State) : State :=
  match t with
  | .slotRead k _ =>
    match s.lw k with
    | .searching f slot read _ => s.setLw k (.searching f slot read true)
    | .idle | .placing _ _ | .closing _ _ | .committing _ _ _ _ | .dropping _ => s
  | .dataWrite k _ bytes =>
    match s.lw k with
    | .placing f p =>
      let s := s.setLr k { s.lr k with staging := (s.lr k).staging.take bytes.length }
      advance k (s.setLw k (.placing f
        { p with offset := p.offset + bytes.length, outstanding := p.outstanding + 1 }))
    | .idle | .searching _ _ _ _ | .closing _ _ | .committing _ _ _ _ | .dropping _ => s
  | .headerRead _ =>
    match s.dc.device with
    | .loading l => s.setDevice (.loading { l with issued := true })
    | .off | .running | .quiescing | .quiet | .resetting | .broken => s
  | .anchorRead _ | .orderRead _ | .linkRead _ =>
    s.setInHand (s.walker.inHand.map fun j => { j with stage := j.stage.issue })
  | .metadataWrite _ _ _ | .fillWrite _ _ _ | .deviceHalfWrite _ _ _ _ | .streamStatusWrite _ _
  | .laneStatusWrite _ _ | .summaryWrite _ _ => { s with rw := { s.rw with queue := s.rw.queue.tail } }

/-- A granted request is issued: it is placed at the issue point and enters the outstanding table with its
response timer started. -/
def issue (t : Txn) (s : State) : State :=
  clientIssued t { s with port := { s.port with
    table := s.port.table ++ [⟨t, s.now + BitVec.ofNat 64 (timeoutOf t s)⟩], issuePoint := some t } }

/-- A grant (R124, R125): with the issue point free, the arbiter's choice is issued. -/
def grantOne (s : State) : State :=
  if s.port.issuePoint.isSome then s
  else match arbitrate s with
    | none => s
    | some (c, port) =>
      match eligible c s with
      | none => s
      | some t => issue t { s with port }

/-- GRANT (R124). -/
def execGrant (s : State) : Host.Outcome State Fault Refusal := live grantOne s

/-- ISSUE_ACCEPTED (R130): the interconnect has accepted the address and data; the issue point is free. -/
def execIssueAccepted (s : State) : Host.Outcome State Fault Refusal :=
  live (fun s => { s with port := { s.port with issuePoint := none } }) s

/-! ### Responses (R128, R131) -/

/-- An entry belongs to a client and direction. -/
def Entry.isOf (c : Client) (d : Direction) (e : Entry) : Bool :=
  e.txn.client == c && e.txn.direction == d

/-- The oldest outstanding transaction of a client and direction (R128). -/
def oldest (c : Client) (d : Direction) (s : State) : Option Entry := s.port.table.find? (Entry.isOf c d)

/-- Take the oldest outstanding transaction of a client and direction out of the table. -/
def removeOldest (c : Client) (d : Direction) (s : State) : State :=
  { s with port := { s.port with table := s.port.table.eraseP (Entry.isOf c d) } }

/-- A late response is discarded and the expired count falls by one (R131). -/
def discardLate (c : Client) (d : Direction) (s : State) : State :=
  s.setExpired c d (s.expired c d - 1)

/-- A response for a client and direction. With an expired count above 0 it is late (R131). Otherwise it
ends the oldest outstanding transaction, which leaves the table and is handed to `act`, if that is of the
kind the command names; with none outstanding it is discarded (R131). -/
def respond (c : Client) (d : Direction) (isKind : Txn → Bool) (act : Txn → State → State) (s : State) :
    State :=
  if s.expired c d ≠ 0 then discardLate c d s
  else match oldest c d s with
    | none => s
    | some e => if isKind e.txn then act e.txn (removeOldest c d s) else s

/-- LATE_RESPONSE (R131): where the expired count is 0 there is nothing late to discard. -/
def execLateResponse (c : Client) (d : Direction) (s : State) : Host.Outcome State Fault Refusal :=
  live (fun s => if s.expired c d ≠ 0 then discardLate c d s else s) s

/-- A timeout raises the expired count (R131); a raise at 255 is a free value (log entry 8). -/
def raiseExpired (c : Client) (d : Direction) (s : State) : State :=
  if (s.expired c d).toNat < 255 then s.setExpired c d (s.expired c d + 1)
  else { s.setExpired c d (Config.expiredPast255 s.freeIndex) with freeIndex := s.freeIndex + 1 }

end Sys2Proof.Machine
end

