-- ==== Sys2Proof/Machine/Streams.lean ====
section
/-! DEFINITION. The Stream Context Table's own steps: requests (chapter 1), the classing of frame starts,
trigger edges and arm deadlines (chapter 4); the meanings of START, HALT, RESUME, FORGET and
ARM_DEADLINE_EXPIRY. -/

namespace Sys2Proof.Machine

/-! ### Requests (R12 to R23) -/

/-- A binding names a (lane, tag) pair. -/
def Binding.isPair (b : Binding) (lane : Lane) (tag : Tag) : Bool := b.lane == lane && b.tag == tag

/-- A stream that is not IDLE holds the pair. -/
def holdsPair (lane : Lane) (tag : Tag) (s : State) (st : StreamId) : Bool :=
  match (s.standing st).binding? with
  | some b => b.isPair lane tag
  | none => false

/-- The binding a START anchor names, if its fields are in range (R13, BAD_FIELD). -/
def Anchor.binding? (a : Anchor) : Option Binding :=
  if a.reserved ≠ 0 then none
  else if h : a.lane.toNat < 12 ∧ a.tag.toNat < 4 ∧ a.window.toNat < 8 then
    some ⟨⟨a.lane.toNat, h.1⟩, ⟨a.tag.toNat, h.2.1⟩, ⟨a.window.toNat, h.2.2⟩⟩
  else none

/-- The checks of a START after the field ranges, in order; the first that fails answers (R14). -/
def startResult (st : StreamId) (b : Binding) (head : Addr) (s : State) : RequestResult :=
  if allStreams.any fun other => other != st && holdsPair b.lane b.tag s other then .bindingTaken
  else if !s.laneEnabled b.lane then .laneDisabled
  else if head = 0 ∨ aligned128 head = false then .badHead
  else if (s.window b.window).granules = 0 then .badWindow
  else .done

/-- Acting on a request records its number and result and pends the stream (R13). -/
def answer (st : StreamId) (number : Byte) (r : RequestResult) (s : State) : State :=
  pend st (s.setCtx st { s.ctx st with acted := number, result := r })

/-- START (R14): taken in IDLE when every check passes. -/
def actStart (st : StreamId) (a : Anchor) (s : State) : State :=
  match s.standing st with
  | .bound _ _ => answer st a.number .wrongState s
  | .idle =>
    match a.binding? with
    | none => answer st a.number .badField s
    | some b =>
      match startResult st b a.head s with
      | .done =>
        pend st (s.setCtx st
          { standing := .bound b (.fetching (.fetch a.head)), acted := a.number, result := .done
            lastSource := none, unclaimed := 0, missed := 0 })
      | r => answer st a.number r s

/-- HALT (R15 to R18, R20). -/
def actHalt (st : StreamId) (number : Byte) (s : State) : State :=
  match s.standing st with
  | .bound _ (.fetching r) => answer st number .done (enter st (.halted r) s)
  | .bound _ (.armed _ _) =>
    answer st number .done (retire st .cut .halted (fun o => .halted (linkOf o)) s)
  | .bound _ (.capturing o) =>
    if frameInFlight st s then answer st number .done (enter st (.halting o) s)
    else answer st number .done (retire st .cut .halted (fun o => .halted (linkOf o)) s)
  | .bound _ (.parked a) => answer st number .done (enter st (.halted (.link a false)) s)
  | .bound _ (.halting _) | .bound _ (.halted _) | .bound _ (.faulted _) | .idle =>
    answer st number .wrongState s

/-- A resume point at RESUME: a link step is ready there (R31). -/
def ResumePoint.atResume : ResumePoint → ResumePoint
  | .fetch a => .fetch a
  | .link a _ => .link a true

/-- RESUME (R21). -/
def actResume (st : StreamId) (number : Byte) (s : State) : State :=
  match s.standing st with
  | .bound _ (.halted r) => answer st number .done (enter st (.fetching r.atResume) s)
  | .bound _ (.fetching _) | .bound _ (.armed _ _) | .bound _ (.capturing _) | .bound _ (.halting _)
  | .bound _ (.parked _) | .bound _ (.faulted _) | .idle => answer st number .wrongState s

/-- A dropped frame's stream has been forgotten (R159). -/
def Writer.disownedBy (st : StreamId) : Writer → Writer
  | .dropping d => .dropping { d with disowned := d.disowned || d.stream == st }
  | w => w

/-- What is still under way for a stream is no longer its own after a FORGET (R152, R159). -/
def disown (st : StreamId) (s : State) : State :=
  { s with
    writers := s.writers.map (Writer.disownedBy st)
    rw := { s.rw with queue := s.rw.queue.map (Txn.disownedBy st) }
    port := { s.port with table := s.port.table.map fun e => { e with txn := e.txn.disownedBy st } } }

/-- The context after FORGET: unclaimed and source frames missed are kept (R22). -/
def Context.forgotten (c : Context) : Context := { c with standing := .idle, lastSource := none }

/-- FORGET (R22). -/
def actForget (st : StreamId) (number : Byte) (s : State) : State :=
  match s.standing st with
  | .bound _ (.halted _) | .bound _ (.parked _) | .bound _ (.faulted _) =>
    answer st number .done (disown st (s.setCtx st (s.ctx st).forgotten))
  | .bound _ (.fetching _) | .bound _ (.armed _ _) | .bound _ (.capturing _) | .bound _ (.halting _)
  | .idle => answer st number .wrongState s

/-- Acting on the request an anchor holds (R13, R15). -/
def actRequest (st : StreamId) (a : Anchor) (s : State) : State :=
  if a.kind = 1 then actStart st a s
  else if a.kind = 2 then actHalt st a.number s
  else if a.kind = 3 then actResume st a.number s
  else if a.kind = 4 then actForget st a.number s
  else answer st a.number .badField s

/-- The job in hand is reading the stream's anchor (R12). -/
def anchorInHand (st : StreamId) (s : State) : Bool :=
  match s.walker.inHand with
  | some ⟨job, .anchorRead _⟩ => job.stream == st
  | some ⟨_, .awaitWrites _ _⟩ | some ⟨_, .orderRead _ _⟩ | some ⟨_, .linkRead _ _⟩ | none => false

/-- A job of the stream is in hand (R35). -/
def jobInHandOf (st : StreamId) (s : State) : Bool :=
  match s.walker.inHand with
  | some j => j.job.stream == st
  | none => false

/-- A request for the stream can be acted on (log entry 3): the job in hand is reading the stream's anchor
(R12), or, in RUNNING, where an ANCHOR job can be queued at any time (R32), no job of the stream is in hand
(R16). In QUIESCING the job in hand is the last (R34, R180). -/
def requestOpen (st : StreamId) (s : State) : Bool :=
  anchorInHand st s || (decide (s.dc.device = .running) && !jobInHandOf st s)

/-- A request taken by the SCT as a step of its own (log entry 3): in RUNNING and QUIESCING, and only if
its number makes it new (R12). -/
def takeRequest (st : StreamId) (number : Byte) (act : State → State) (s : State) : State :=
  if s.working ∧ requestOpen st s = true ∧ number ≠ (s.ctx st).acted then act s else s

/-- START (R14). -/
def execStart (st : StreamId) (number lane tag window : Byte) (reserved : BitVec 24) (head : Addr)
    (s : State) : Host.Outcome State Fault Refusal :=
  live (takeRequest st number (actStart st ⟨number, 1, lane, tag, window, reserved, head⟩)) s

/-- HALT (R16, R17, R18, R20). -/
def execHalt (st : StreamId) (number : Byte) (s : State) : Host.Outcome State Fault Refusal :=
  live (takeRequest st number (actHalt st number)) s

/-- RESUME (R21). -/
def execResume (st : StreamId) (number : Byte) (s : State) : Host.Outcome State Fault Refusal :=
  live (takeRequest st number (actResume st number)) s

/-- FORGET (R22). -/
def execForget (st : StreamId) (number : Byte) (s : State) : Host.Outcome State Fault Refusal :=
  live (takeRequest st number (actForget st number)) s

/-! ### Frame starts (R24, R25, R57, R85, R86) -/

/-- The SCT's answer to a frame start (R105). -/
inductive StartAnswer where
  | offered | notOffered | unbound
  deriving DecidableEq, Repr

/-- The order after a met frame start: met, thinned and the thin phase (R85). -/
def CurrentOrder.meet (o : CurrentOrder) : CurrentOrder :=
  { o with
    counters := { o.counters with
      met := o.counters.met + 1
      thinned := if o.thinPhase = 0 then o.counters.thinned else o.counters.thinned + 1 }
    thinPhase := (o.thinPhase + 1) % o.params.thin }

/-- A frame start of a CAPTURING stream is met. A selected frame is offered if its Lane Writer is IDLE and
counted lost otherwise (R57, R86). -/
def meetFrame (st : StreamId) (o : CurrentOrder) (k : Lane) (h : FrameHeader) (s : State) :
    StartAnswer × State :=
  let s := mapOrder st CurrentOrder.meet s
  if o.thinPhase ≠ 0 then (.notOffered, s)
  else if s.lw k = .idle then
    (.offered, s.setLw k (.searching
      { stream := st, sourceNumber := h.sourceNumber, mark := h.mark, ended := none, truncated := false
        gap := false, margin := false }
      o.cursor 0 false))
  else (.notOffered, count st Counters.addLost s)

/-- The stream's unclaimed count rises by one (R24). -/
def unclaim (st : StreamId) (s : State) : State :=
  s.setCtx st { s.ctx st with unclaimed := (s.ctx st).unclaimed + 1 }

/-- The classing of a frame start (R24, R25, R82). -/
def frameStart (k : Lane) (h : FrameHeader) (s : State) : StartAnswer × State :=
  match allStreams.find? (holdsPair k h.tag s) with
  | none => (.unbound, s)
  | some st =>
    match s.standing st with
    | .bound _ (.capturing o) => meetFrame st o k h s
    | .bound _ (.armed o _) =>
      if o.params.start = .mark ∧ h.mark = true then
        meetFrame st o k h (enter st (.capturing o) s)
      else (.notOffered, count st (fun c => { c with passedOver := c.passedOver + 1 }) s)
    | .bound _ (.fetching _) | .bound _ (.halting _) | .bound _ (.halted _) | .bound _ (.parked _)
    | .bound _ (.faulted _) | .idle => (.notOffered, unclaim st s)

/-! ### Trigger edges (R78 to R80) -/

/-- A trigger edge as one stream takes it. -/
def edgeForStream (k : Lane) (e : Edge) (st : StreamId) (s : State) : State :=
  match s.standing st with
  | .bound b (.armed o _) =>
    if b.lane = k ∧ o.params.start = .edge ∧ senseMatches o.params.sense e = true then
      enter st (.capturing o) s
    else s
  | .bound b (.capturing _) =>
    if b.lane = k then count st (fun c => { c with edgesIgnored := c.edgesIgnored + 1 }) s else s
  | .bound _ (.fetching _) | .bound _ (.halting _) | .bound _ (.halted _) | .bound _ (.parked _)
  | .bound _ (.faulted _) | .idle => s

/-- The SCT takes a trigger edge, in RUNNING only, for every stream bound to the lane (R78). -/
def takeEdge (k : Lane) (e : Edge) (s : State) : State :=
  if s.dc.device = .running then allStreams.foldl (fun s st => edgeForStream k e st s) s else s

/-! ### Arm deadlines (R83) -/

/-- The arm deadline expires: the order is retired NO_TRIGGER and the stream enters FETCHING (R83). -/
def expireArm (st : StreamId) (s : State) : State :=
  match s.standing st with
  | .bound _ (.armed _ (some due)) =>
    if s.dc.device = .running ∧ reached s.now due = true then
      retire st .noTrigger .armLimit (fun o => .fetching (linkOf o)) s
    else s
  | .bound _ (.armed _ none) | .bound _ (.fetching _) | .bound _ (.capturing _) | .bound _ (.halting _)
  | .bound _ (.halted _) | .bound _ (.parked _) | .bound _ (.faulted _) | .idle => s

/-- ARM_DEADLINE_EXPIRY (R83). -/
def execArmDeadlineExpiry (st : StreamId) (s : State) : Host.Outcome State Fault Refusal :=
  live (expireArm st) s

end Sys2Proof.Machine
end

