-- ==== Sys2Proof/Machine/Walker.lean ====
section
/-! DEFINITION. The Chain Walker (chapter 2): jobs, fetch steps, link steps and the sweep; the meanings of
its job, issue and read-completion commands. -/

namespace Sys2Proof.Machine

/-- The job in hand ends. -/
def endJob (s : State) : State := s.setInHand none

/-- The job in hand goes on to another stage. -/
def setStage (stage : JobStage) (s : State) : State :=
  s.setInHand (s.walker.inHand.map fun j => { j with stage })

/-- Device-half writes the RW has made that have not ended (R36, R139). -/
def halvesOpen (s : State) : Nat :=
  s.rw.queue.countP (fun t => t.deviceHalfStream?.isSome)
    + s.port.table.countP (fun e => e.txn.deviceHalfStream?.isSome)

/-- A fetch step begins: check 1 (R37), then the wait for earlier device-half writes (R36). -/
def beginFetch (st : StreamId) (b : Binding) (a : Addr) (s : State) : State :=
  if insideWindow (s.window b.window) a 128 then setStage (.awaitWrites a (halvesOpen s)) s
  else endJob (streamFault st .orderOutside s)

/-- A link step begins: the 16-byte link read is presented (R48). -/
def beginLink (a : Addr) (s : State) : State := setStage (.linkRead a false) s

/-- What an ANCHOR job goes on to, by the state it leaves the stream in (R23, R31). -/
def goOn (st : StreamId) (s : State) : State :=
  match s.standing st with
  | .bound b (.fetching (.fetch a)) => beginFetch st b a s
  | .bound _ (.fetching (.link a true)) => beginLink a s
  | .bound _ (.parked a) => beginLink a s
  | .bound _ (.fetching (.link _ false)) | .bound _ (.armed _ _) | .bound _ (.capturing _)
  | .bound _ (.halting _) | .bound _ (.halted _) | .bound _ (.faulted _) | .idle => endJob s

/-- The walker takes the job at the head of its queue, if it is of the kind named: in RUNNING, with no job
in hand (R34, R36). -/
def takeJob (kind : JobKind) (work : Job → State → State) (s : State) : State :=
  match s.walker.queue with
  | [] => s
  | j :: rest =>
    if s.dc.device = .running ∧ s.walker.inHand = none ∧ j.kind = kind then
      work j { s with walker := { s.walker with queue := rest, inHand := some ⟨j, .anchorRead false⟩ } }
    else s

/-- The work of a FETCH job (R31). -/
def workFetch (j : Job) (s : State) : State :=
  match s.standing j.stream with
  | .bound b (.fetching (.fetch a)) => beginFetch j.stream b a s
  | .bound _ (.fetching (.link _ _)) | .bound _ (.armed _ _) | .bound _ (.capturing _)
  | .bound _ (.halting _) | .bound _ (.halted _) | .bound _ (.parked _) | .bound _ (.faulted _)
  | .idle => endJob s

/-- The work of a LINK job (R31). -/
def workLink (j : Job) (s : State) : State :=
  match s.standing j.stream with
  | .bound _ (.fetching (.link a true)) => beginLink a s
  | .bound _ (.fetching (.link _ false)) | .bound _ (.fetching (.fetch _)) | .bound _ (.armed _ _)
  | .bound _ (.capturing _) | .bound _ (.halting _) | .bound _ (.halted _) | .bound _ (.parked _)
  | .bound _ (.faulted _) | .idle => endJob s

/-- ANCHOR_JOB (R31): the stream's anchor read is presented. -/
def execAnchorJob (s : State) : Host.Outcome State Fault Refusal := live (takeJob .anchor fun _ s => s) s

/-- FETCH_JOB (R31). -/
def execFetchJob (s : State) : Host.Outcome State Fault Refusal := live (takeJob .fetch workFetch) s

/-- LINK_JOB (R31). -/
def execLinkJob (s : State) : Host.Outcome State Fault Refusal := live (takeJob .link workLink) s

/-- The stream is FETCHING with the fetch step of order `a`. -/
def holdsFetch (st : StreamId) (a : Addr) (s : State) : Option Binding :=
  match s.standing st with
  | .bound b (.fetching (.fetch a')) => if a' = a then some b else none
  | .bound _ (.fetching (.link _ _)) | .bound _ (.armed _ _) | .bound _ (.capturing _)
  | .bound _ (.halting _) | .bound _ (.halted _) | .bound _ (.parked _) | .bound _ (.faulted _)
  | .idle => none

/-- The stream holds the link step of order `a`, or is PARKED on it (R9). The answer says which. -/
inductive LinkHolder where
  | fetching | parked | neither
  deriving DecidableEq, Repr

/-- How a stream holds the link of order `a`. -/
def holdsLink (st : StreamId) (a : Addr) (s : State) : LinkHolder :=
  match s.standing st with
  | .bound _ (.fetching (.link a' _)) => if a' = a then .fetching else .neither
  | .bound _ (.parked a') => if a' = a then .parked else .neither
  | .bound _ (.fetching (.fetch _)) | .bound _ (.armed _ _) | .bound _ (.capturing _)
  | .bound _ (.halting _) | .bound _ (.halted _) | .bound _ (.faulted _) | .idle => .neither

/-- The order read is presented once every device-half write ahead of it has ended (R36). A stream that
no longer holds the step gets no read. -/
def issueOrderRead (s : State) : State :=
  match s.walker.inHand with
  | some ⟨job, .awaitWrites a 0⟩ =>
    if s.working then
      if (holdsFetch job.stream a s).isSome then setStage (.orderRead a false) s else endJob s
    else s
  | some ⟨_, .awaitWrites _ (_ + 1)⟩ | some ⟨_, .anchorRead _⟩ | some ⟨_, .orderRead _ _⟩
  | some ⟨_, .linkRead _ _⟩ | none => s

/-- ORDER_READ_ISSUE (R36). -/
def execOrderReadIssue (s : State) : Host.Outcome State Fault Refusal := live issueOrderRead s

/-- A device-half write has ended: a fetch step that waits for it waits for one fewer (R36). -/
def halfEnded (s : State) : State :=
  match s.walker.inHand with
  | some ⟨_, .awaitWrites a (n + 1)⟩ => setStage (.awaitWrites a n) s
  | some ⟨_, .awaitWrites _ 0⟩ | some ⟨_, .anchorRead _⟩ | some ⟨_, .orderRead _ _⟩
  | some ⟨_, .linkRead _ _⟩ | none => s

/-! ### Completions of the walker's reads -/

/-- The stream of the job in hand whose anchor read is outstanding. -/
def anchorReader (s : State) : Option StreamId :=
  match s.walker.inHand with
  | some ⟨job, .anchorRead true⟩ => some job.stream
  | some ⟨_, .anchorRead false⟩ | some ⟨_, .awaitWrites _ _⟩ | some ⟨_, .orderRead _ _⟩
  | some ⟨_, .linkRead _ _⟩ | none => none

/-- The stream and order of the job in hand whose order read is outstanding. -/
def orderReader (s : State) : Option (StreamId × Addr) :=
  match s.walker.inHand with
  | some ⟨job, .orderRead a true⟩ => some (job.stream, a)
  | some ⟨_, .orderRead _ false⟩ | some ⟨_, .awaitWrites _ _⟩ | some ⟨_, .anchorRead _⟩
  | some ⟨_, .linkRead _ _⟩ | none => none

/-- The stream and order of the job in hand whose link read is outstanding. -/
def linkReader (s : State) : Option (StreamId × Addr) :=
  match s.walker.inHand with
  | some ⟨job, .linkRead a true⟩ => some (job.stream, a)
  | some ⟨_, .linkRead _ false⟩ | some ⟨_, .awaitWrites _ _⟩ | some ⟨_, .anchorRead _⟩
  | some ⟨_, .orderRead _ _⟩ | none => none

/-- The anchor read returns: a new request is acted on (R12), and the job goes on (R23). In BROKEN the job
ends and its result is not acted on (R34). -/
def anchorReadOk (data : Read16) (s : State) : State :=
  match anchorReader s with
  | none => s
  | some st =>
    if s.working then
      let a := parseAnchor data
      goOn st (if a.number ≠ (s.ctx st).acted then actRequest st a s else s)
    else endJob s

/-- ANCHOR_READ_DONE (R12). -/
def execAnchorReadDone (data : Read16) (s : State) : Host.Outcome State Fault Refusal :=
  live (respond walkerClient .read
    (fun t => match t with | .anchorRead _ => true | _ => false) (fun _ => anchorReadOk data)) s

/-- The context of an accepted order (R7, R43). -/
def acceptedOrder (a : Addr) (p : OrderParams) (now : Time) : CurrentOrder :=
  { address := a, params := p, cursor := 0, thinPhase := 0, counters := Counters.zero, commitsSince := 0
    acceptTime := now }

/-- The state an accepted order puts its stream in (R7, R77, R83). -/
def acceptedPhase (o : CurrentOrder) : Phase :=
  match o.params.start with
  | .immediate => .capturing o
  | .edge | .mark =>
    .armed o (if o.params.armLimit = 0 then none
      else some (o.acceptTime + BitVec.ofNat 64 (o.params.armLimit.toNat * 1000)))

/-- An order passing all five checks is accepted (R43). -/
def acceptOrder (st : StreamId) (a : Addr) (p : OrderParams) (s : State) : State :=
  let o := acceptedOrder a p s.now
  handHalf st a (o.half .active .none 0) (enter st (acceptedPhase o) s)

/-- An order failing check 4 or 5 is retired without being accepted (R42). -/
def refuseOrder (st : StreamId) (a : Addr) (outcome : OrderOutcome) (reason : Reason) (s : State) :
    State :=
  handHalf st a { outcome, reason, counters := Counters.zero, acceptTime := 0, retireTime := s.now }
    (enter st (.fetching (.link a false)) s)

/-- Checks 3 to 5 of a fetch, in order, on the record read (R39 to R43). -/
def judgeOrder (st : StreamId) (b : Binding) (a : Addr) (data : Read128) (s : State) : State :=
  if outcomeByte data ≠ 0 then streamFault st .staleOrder s
  else match parseOrder data with
    | .error r => refuseOrder st a .refused r s
    | .ok p =>
      match p.outside (s.window b.window) with
      | some r => refuseOrder st a .window r s
      | none => acceptOrder st a p s

/-- The order read returns; the job ends with the fetch step's end. -/
def orderReadOk (data : Read128) (s : State) : State :=
  match orderReader s with
  | none => s
  | some (st, a) =>
    if s.working then
      match holdsFetch st a s with
      | some b => endJob (judgeOrder st b a data s)
      | none => endJob s
    else endJob s

/-- ORDER_READ_DONE (R39). -/
def execOrderReadDone (data : Read128) (s : State) : Host.Outcome State Fault Refusal :=
  live (respond walkerClient .read
    (fun t => match t with | .orderRead _ => true | _ => false) (fun _ => orderReadOk data)) s

/-- What a link read's result does to the stream (R9, R48, R49). -/
def followLink (st : StreamId) (a link : Addr) (s : State) : State :=
  match holdsLink st a s with
  | .neither => s
  | .fetching =>
    if link = 0 then enter st (.parked a) s
    else if aligned128 link then askJob st .fetch (enter st (.fetching (.fetch link)) s)
    else streamFault st .linkBad s
  | .parked =>
    if link = 0 then s
    else if aligned128 link then askJob st .fetch (enter st (.fetching (.fetch link)) s)
    else streamFault st .linkBad s

/-- The link read returns; the job ends. -/
def linkReadOk (data : Read16) (s : State) : State :=
  match linkReader s with
  | none => s
  | some (st, a) => if s.working then endJob (followLink st a (linkField data) s) else endJob s

/-- LINK_READ_DONE (R9). -/
def execLinkReadDone (data : Read16) (s : State) : Host.Outcome State Fault Refusal :=
  live (respond walkerClient .read
    (fun t => match t with | .linkRead _ => true | _ => false) (fun _ => linkReadOk data)) s

/-- A port fault on the order read: READ_FAULT, with no write to the order (R38, R153). -/
def orderReadFaulted (s : State) : State :=
  match orderReader s with
  | none => s
  | some (st, a) =>
    if s.working ∧ (holdsFetch st a s).isSome = true then endJob (streamFault st .readFault s)
    else endJob s

/-- A port fault on the link read: READ_FAULT (R9, R48, R153). -/
def linkReadFaulted (s : State) : State :=
  match linkReader s with
  | none => s
  | some (st, a) =>
    if s.working ∧ holdsLink st a s ≠ .neither then endJob (streamFault st .readFault s) else endJob s

/-! ### The sweep (R33) -/

/-- The sweep period in microseconds. -/
def sweepPeriod (n : Snapshot) : Nat := n.sweepInterval.toNat * 100

/-- When the sweep timer next runs out, counted from a time; stopped with interval 0. -/
def sweepFrom (n : Snapshot) (t : Time) : Option Time :=
  if n.sweepInterval = 0 then none else some (t + BitVec.ofNat 64 (sweepPeriod n))

/-- The end of a sweep period: the next starts and every stream is visited in stream order (R33). -/
def sweep (s : State) : State :=
  match s.walker.sweepDue, s.dc.snapshot with
  | some due, some n =>
    if s.dc.device = .running ∧ reached s.now due = true then
      allStreams.foldl (fun s st => attend st s)
        { s with walker := { s.walker with sweepDue := sweepFrom n due } }
    else s
  | some _, none | none, some _ | none, none => s

/-- SWEEP_EXPIRY (R33). -/
def execSweepExpiry (s : State) : Host.Outcome State Fault Refusal := live sweep s

end Sys2Proof.Machine
end

