-- ==== Sys2Proof/Machine/Report.lean ====
section
/-! DEFINITION. The Report Writer (chapter 7): publications, the initial publication, lane refreshes and
the drain of QUIESCING; the meanings of its commands. -/

namespace Sys2Proof.Machine

/-! ### Records -/

/-- Address of a stream status record (10.1). -/
def streamStatusAddress (st : StreamId) (s : State) : Addr :=
  s.board + BitVec.ofNat 64 (0x400 + 64 * st.val)

/-- Address of a lane status record (10.1). -/
def laneStatusAddress (k : Lane) (s : State) : Addr := s.board + BitVec.ofNat 64 (0xA00 + 32 * k.val)

/-- Address of the Summary (10.1). -/
def summaryAddress (s : State) : Addr := s.board + BitVec.ofNat 64 0xC00

/-- The status write of a stream, its record formed from the context as it stands (R140, R141). -/
def streamStatusWrite (s : State) (st : StreamId) : Txn :=
  .streamStatusWrite (streamStatusAddress st s) ⟨s.ctx st, s.rw.reportNumber + 1⟩

/-- The status write of a lane, its record formed from the receiver as it stands (R145). -/
def laneStatusWrite (s : State) (k : Lane) : Txn :=
  .laneStatusWrite (laneStatusAddress k s) ⟨(s.lr k).lock, (s.lr k).counters, s.now⟩

/-- A Summary write is made (R142). -/
def makeSummary (number : Word) (device : SummaryState) (s : State) : State :=
  enqueue (.summaryWrite (summaryAddress s) ⟨number, device, s.now⟩) s

/-- A lane refresh begins: 12 lane status writes in ascending lane number (R145). -/
def beginLaneRefresh (s : State) : State :=
  let s' := enqueueAll (allLanes.map (laneStatusWrite s)) s
  { s' with rw := { s'.rw with laneUnanswered := 12 } }

/-! ### Publications (R139 to R142) -/

/-- The RW has no device-half write of the stream in its queue or outstanding, and no FAULT retirement of
the stream waits to be handed to it (R139). -/
def readyStream (s : State) (st : StreamId) : Bool :=
  !retirementWaiting st s
    && !(s.rw.queue.any fun t => t.deviceHalfStream? == some st)
    && !(s.port.table.any fun e => e.txn.deviceHalfStream? == some st)

/-- The ready pending streams, in ascending order (R140). -/
def readyBatch (s : State) : List StreamId :=
  allStreams.filter fun st => s.isPending st && readyStream s st

/-- The LINK step a stream's record carries, if its resume point is one (R142). -/
def recordedLink (s : State) (st : StreamId) : Option Addr :=
  match (s.standing st).resume? with
  | some (.link a _) => some a
  | some (.fetch _) | none => none

/-- Take streams out of the pending set. -/
def unpend (batch : List StreamId) (v : Vector Bool 24) : Vector Bool 24 :=
  batch.foldl (fun v st => v.set st.val false) v

/-- A publication begins (R140). -/
def beginPublication (s : State) : State :=
  let batch := readyBatch s
  if s.working ∧ s.rw.publication = none ∧ s.rw.initial = .complete ∧ batch ≠ [] then
    enqueueAll (batch.map (streamStatusWrite s)) { s with rw := { s.rw with
      pendingSet := unpend batch s.rw.pendingSet
      publication := some
        { batch := batch.map fun st => (st, recordedLink s st), stage := .status batch.length
          closing := false } } }
  else s

/-- PUBLICATION_BEGIN (R140). -/
def execPublicationBegin (s : State) : Host.Outcome State Fault Refusal := live beginPublication s

/-- The device state a Summary of an ordinary publication carries (R142). -/
def summaryState (s : State) : SummaryState := if s.dc.device = .running then .running else .quiescing

/-- The initial publication's Summary is made once its 24 status writes and 12 lane status writes have all
responded OK (R146). -/
def initialSummary (s : State) : State :=
  if s.rw.initial = .pending 0 false ∧ s.rw.laneUnanswered = 0 then
    makeSummary 0 .running { s with rw := { s.rw with initial := .pending 0 true } }
  else s

/-- A status write of the publication in progress, or of the initial one, has responded OK (R142, R146). -/
def streamStatusOk (s : State) : State :=
  if s.working then
    match s.rw.initial with
    | .pending n made => initialSummary { s with rw := { s.rw with initial := .pending (n - 1) made } }
    | .complete =>
      match s.rw.publication with
      | some { batch, stage := .status n, closing } =>
        if n ≤ 1 then
          makeSummary (s.rw.reportNumber + 1) (summaryState s)
            { s with rw := { s.rw with publication := some { batch, stage := .summary, closing } } }
        else { s with rw := { s.rw with publication := some { batch, stage := .status (n - 1), closing } } }
      | some { batch := _, stage := .summary, closing := _ } | none => s
  else s

/-- STREAM_STATUS_WRITE_DONE (R142). -/
def execStreamStatusWriteDone (s : State) : Host.Outcome State Fault Refusal :=
  live (respond reporterClient .write
    (fun t => match t with | .streamStatusWrite _ _ => true | _ => false) (fun _ => streamStatusOk)) s

/-- The SCT is told that a record carrying a LINK step has been published: if the stream is FETCHING with
the same step, the step becomes ready and a LINK job is asked for (R35, R46, R142). -/
def notifyPublished (entry : StreamId × Option Addr) (s : State) : State :=
  match entry.2, s.standing entry.1 with
  | some a, .bound b (.fetching (.link a' _)) =>
    if a' = a then
      let s := s.setStanding entry.1 (.bound b (.fetching (.link a true)))
      if jobInHandOf entry.1 s then s else askJob entry.1 .link s
    else s
  | _, _ => s

/-- A publication completes: the report number rises, the SCT is told of the batch, and the closing
publication brings the device to QUIET (R142, R147). The streams are told in the batch's ascending order, and
their LINK jobs join the walker queue in it: the spec gives none, the choice is the model's (log entry 35). -/
def completePublication (p : Publication) (s : State) : State :=
  let s := { s with rw := { s.rw with reportNumber := s.rw.reportNumber + 1, publication := none } }
  let s := p.batch.foldl (fun s e => notifyPublished e s) s
  if p.closing then { s with rw := { s.rw with drain := .notBegun }, dc := { s.dc with device := .quiet } }
  else s

/-- The Summary write has responded OK (R142, R146). -/
def summaryOk (s : State) : State :=
  if s.working then
    match s.rw.initial with
    | .pending _ _ => { s with rw := { s.rw with initial := .complete } }
    | .complete =>
      match s.rw.publication with
      | some p => completePublication p s
      | none => s
  else s

/-- SUMMARY_WRITE_DONE (R142). -/
def execSummaryWriteDone (s : State) : Host.Outcome State Fault Refusal :=
  live (respond reporterClient .write
    (fun t => match t with | .summaryWrite _ _ => true | _ => false) (fun _ => summaryOk)) s

/-- A lane status write has responded OK (R145, R146). -/
def laneStatusOk (s : State) : State :=
  if s.working then
    initialSummary { s with rw := { s.rw with laneUnanswered := s.rw.laneUnanswered - 1 } }
  else s

/-- LANE_STATUS_WRITE_DONE (R145). -/
def execLaneStatusWriteDone (s : State) : Host.Outcome State Fault Refusal :=
  live (respond reporterClient .write
    (fun t => match t with | .laneStatusWrite _ _ => true | _ => false) (fun _ => laneStatusOk)) s

/-! ### Lane refreshes (R145) -/

/-- When the lane refresh timer next runs out, counted from a time. -/
def refreshFrom (n : Snapshot) (t : Time) : Time :=
  t + BitVec.ofNat 64 (n.refreshInterval.toNat * 1000)

/-- The end of a lane refresh period: the next starts, and a refresh begins unless one is in progress. -/
def refreshExpired (s : State) : State :=
  match s.rw.refreshDue, s.dc.snapshot with
  | some due, some n =>
    if s.dc.device = .running ∧ reached s.now due = true then
      let s := { s with rw := { s.rw with refreshDue := some (refreshFrom n due) } }
      if s.rw.laneUnanswered = 0 then beginLaneRefresh s else s
    else s
  | some _, none | none, some _ | none, none => s

/-- LANE_REFRESH_EXPIRY (R145). -/
def execLaneRefreshExpiry (s : State) : Host.Outcome State Fault Refusal := live refreshExpired s

/-! ### Commits and device halves at the Report Writer (R69, R70, R139) -/

/-- METADATA_WRITE_DONE (R69). -/
def execMetadataWriteDone (s : State) : Host.Outcome State Fault Refusal :=
  live (respond reporterClient .write
    (fun t => match t with | .metadataWrite _ _ _ => true | _ => false)
    (fun t s => match t with | .metadataWrite k _ _ => metadataOk k s | _ => s)) s

/-- FILL_WRITE_DONE (R70). -/
def execFillWriteDone (s : State) : Host.Outcome State Fault Refusal :=
  live (respond reporterClient .write
    (fun t => match t with | .fillWrite _ _ _ => true | _ => false)
    (fun t s => match t with | .fillWrite k _ _ => fillOk k s | _ => s)) s

/-- DEVICE_HALF_WRITE_DONE (R139): the write no longer holds its stream back, nor a waiting fetch. -/
def execDeviceHalfWriteDone (s : State) : Host.Outcome State Fault Refusal :=
  live (respond reporterClient .write
    (fun t => match t with | .deviceHalfWrite _ _ _ _ => true | _ => false) (fun _ => halfEnded)) s

/-! ### Slot reads and data writes -/

/-- SLOT_READ_DONE (R58). -/
def execSlotReadDone (k : Lane) (data : Read16) (s : State) : Host.Outcome State Fault Refusal :=
  live (respond (laneClient k) .read
    (fun t => match t with | .slotRead _ _ => true | _ => false) (fun _ => slotReadOk k data)) s

/-- DATA_WRITE_DONE (R63). -/
def execDataWriteDone (k : Lane) (s : State) : Host.Outcome State Fault Refusal :=
  live (respond (laneClient k) .write
    (fun t => match t with | .dataWrite _ _ _ => true | _ => false) (fun _ => dataWriteOk k)) s

/-! ### The drain of QUIESCING (R147, R180) -/

/-- Every Lane Writer is IDLE. -/
def writersIdle (s : State) : Bool := allLanes.all fun k => decide (s.lw k = .idle)

/-- The pending set is empty. -/
def pendingEmpty (s : State) : Bool := allStreams.all fun st => !s.isPending st

/-- The quiesce point: DC tells the RW to drain, once (R180). -/
def quiescePoint (s : State) : State :=
  if s.dc.device = .quiescing ∧ s.rw.drain = .notBegun ∧ writersIdle s = true
      ∧ s.walker.inHand = none then
    { s with rw := { s.rw with drain := .publications } }
  else s

/-- QUIESCE_POINT (R180). -/
def execQuiescePoint (s : State) : Host.Outcome State Fault Refusal := live quiescePoint s

/-- Step 2 of the drain (R147). The initial publication must be complete as well (log entry 20). -/
def drainRefresh (s : State) : State :=
  if s.dc.device = .quiescing ∧ s.rw.drain = .publications ∧ pendingEmpty s = true
      ∧ s.rw.publication = none ∧ s.rw.initial = .complete ∧ s.rw.laneUnanswered = 0 then
    beginLaneRefresh { s with rw := { s.rw with drain := .laneRefresh } }
  else s

/-- DRAIN_LANE_REFRESH (R147). -/
def execDrainLaneRefresh (s : State) : Host.Outcome State Fault Refusal := live drainRefresh s

/-- Step 3 of the drain: the closing publication's Summary write is made at once (R147). -/
def closingPublication (s : State) : State :=
  if s.dc.device = .quiescing ∧ s.rw.drain = .laneRefresh ∧ s.rw.laneUnanswered = 0
      ∧ s.rw.publication = none then
    makeSummary (s.rw.reportNumber + 1) .quiet { s with rw := { s.rw with
      drain := .closing, publication := some { batch := [], stage := .summary, closing := true } } }
  else s

/-- CLOSING_PUBLICATION (R147). -/
def execClosingPublication (s : State) : Host.Outcome State Fault Refusal := live closingPublication s

end Sys2Proof.Machine
end

