-- ==== Sys2Proof/Machine/Faults.lean ====
section
/-! DEFINITION. Port faults (chapter 8): where each transaction's fault is taken, the entry to BROKEN, the
end of a failed load; the meanings of the error-response commands and of RESPONSE_TIMEOUT. -/

namespace Sys2Proof.Machine

/-! ### Abandoning frames on entry to RESETTING or BROKEN (R76, R119) -/

/-- An accepted frame becomes a discarded one (R119). -/
def AcceptedFrame.discard (a : AcceptedFrame) : AcceptedFrame := { a with disposition := .discarded }

/-- A receiver abandons its frame: nothing more is reported, staging is emptied (R119). -/
def Receiver.abandon (r : Receiver) : Receiver :=
  { r with staging := Staging.empty, frame := r.frame.map (OpenFrame.mapFrame AcceptedFrame.discard) }

/-- Transactions outstanding for a lane's writer, the issued write of its commit among them (R76). -/
def laneOutstanding (k : Lane) (s : State) : Nat :=
  s.port.table.countP fun e => e.txn.client == laneClient k || e.txn.commitLane? == some k

/-- A writer that has abandoned its frame awaits `n` transactions, or is IDLE. -/
def Writer.abandon (n : Nat) (w : Writer) : Writer :=
  if n = 0 then .idle
  else match w.dropped n with
    | some d => .dropping d
    | none => .idle

/-- Every lane abandons its frame. -/
def abandonLanes (s : State) : State :=
  { s with
    receivers := s.receivers.map Receiver.abandon
    writers := Vector.ofFn fun k => (s.lw k).abandon (laneOutstanding k s) }

/-! ### Device faults (R161 to R165) -/

/-- A cause is raised (R161). -/
def raiseCause (bit : BitVec 4) (s : State) : State :=
  { s with dc := { s.dc with cause := raisedCause s.dc.cause bit } }

/-- The read of a job in hand has been issued, so that BROKEN awaits it (R34). -/
def JobStage.readIssued : JobStage → Bool
  | .anchorRead i => i
  | .orderRead _ i => i
  | .linkRead _ i => i
  | .awaitWrites _ _ => false

/-- The walker on entry to BROKEN: queue dropped, sweep stopped, an issued read awaited (R33, R34). -/
def Walker.broken (w : Walker) : Walker :=
  { queue := [], inHand := w.inHand.filter (fun j => j.stage.readIssued), sweepDue := none }

/-- The Report Writer on entry to BROKEN: it makes no further write; the pending set and the report number
stay (R148). -/
def Reporter.broken (r : Reporter) : Reporter :=
  { r with publication := none, queue := [], laneUnanswered := 0, refreshDue := none }

/-- Entry to BROKEN (R165). -/
def enterBroken (s : State) : State :=
  let s := abandonLanes s
  { s with
    walker := s.walker.broken, rw := s.rw.broken, dc := { s.dc with device := .broken } }

/-- A Board fault in RUNNING or QUIESCING raises its cause and takes the device to BROKEN in the same step
(R163, R165); in any other state it raises nothing (R161). -/
def boardFault (bit : BitVec 4) (s : State) : State :=
  if s.working then enterBroken (raiseCause bit s) else s

/-- The state a failed load returns to (R176). -/
def LoadOrigin.state : LoadOrigin → DeviceState
  | .off => .off
  | .quiet => .quiet

/-- LOADING ends in failure: the cause is raised, the candidate discarded, the device back at its load
origin with result REFUSED (R164, R176). -/
def failLoad (bit : BitVec 4) (s : State) : State :=
  match s.dc.device with
  | .loading l => ((raiseCause bit s).setDevice l.origin.state).setResult .refused
  | .off | .running | .quiescing | .quiet | .resetting | .broken => s

/-! ### Where each port fault is taken (R132) -/

/-- A port fault on an anchor read (R12, R163). In BROKEN the job just ends (R34). -/
def anchorReadFaulted (s : State) : State :=
  match anchorReader s with
  | none => s
  | some _ => boardFault causeBoardRead (endJob s)

/-- The wait of a faulted stream's own fetch step ends with no order read (R36). -/
def endAwait (st : StreamId) (s : State) : State :=
  match s.walker.inHand with
  | some ⟨job, .awaitWrites _ _⟩ => if job.stream = st then endJob s else s
  | some ⟨_, .anchorRead _⟩ | some ⟨_, .orderRead _ _⟩ | some ⟨_, .linkRead _ _⟩ | none => s

/-- A port fault on a device-half write (R47, R155, R158). It is disregarded after a FORGET (R152). -/
def halfFaulted (st : StreamId) (disowned : Bool) (s : State) : State :=
  let s := halfEnded s
  if s.working ∧ disowned = false then
    match s.standing st with
    | .idle => s
    | .bound _ (.faulted _) => pend st s
    | .bound b _ => endAwait st (abandonFrame b.lane st (streamFault st .writeFault s))
  else s

/-- A port fault handed to the client that made the transaction (R132). -/
def portFault (t : Txn) (s : State) : State :=
  match t with
  | .slotRead k _ => frameTxnFault k .readFault s
  | .dataWrite k _ _ => frameTxnFault k .writeFault s
  | .metadataWrite k _ _ => frameTxnFault k .writeFault s
  | .fillWrite k _ _ => frameTxnFault k .writeFault s
  | .anchorRead _ => anchorReadFaulted s
  | .orderRead _ => orderReadFaulted s
  | .linkRead _ => linkReadFaulted s
  | .headerRead _ => failLoad causeBoardRead s
  | .deviceHalfWrite st disowned _ _ => halfFaulted st disowned s
  | .streamStatusWrite _ _ => boardFault causeBoardWrite s
  | .laneStatusWrite _ _ => boardFault causeBoardWrite s
  | .summaryWrite _ _ => boardFault causeBoardWrite s

/-! ### Error responses (R129) -/

/-- SLOT_READ_FAULT (R58, R154). -/
def execSlotReadFault (k : Lane) (s : State) : Host.Outcome State Fault Refusal :=
  live (respond (laneClient k) .read
    (fun t => match t with | .slotRead _ _ => true | _ => false) portFault) s

/-- DATA_WRITE_FAULT (R65, R154). -/
def execDataWriteFault (k : Lane) (s : State) : Host.Outcome State Fault Refusal :=
  live (respond (laneClient k) .write
    (fun t => match t with | .dataWrite _ _ _ => true | _ => false) portFault) s

/-- COMMIT_WRITE_FAULT (R71, R154). -/
def execCommitWriteFault (s : State) : Host.Outcome State Fault Refusal :=
  live (respond reporterClient .write
    (fun t => match t with | .metadataWrite _ _ _ => true | .fillWrite _ _ _ => true | _ => false)
    portFault) s

/-- DEVICE_HALF_WRITE_FAULT (R155). -/
def execDeviceHalfWriteFault (s : State) : Host.Outcome State Fault Refusal :=
  live (respond reporterClient .write
    (fun t => match t with | .deviceHalfWrite _ _ _ _ => true | _ => false) portFault) s

/-- ORDER_READ_FAULT (R38). -/
def execOrderReadFault (s : State) : Host.Outcome State Fault Refusal :=
  live (respond walkerClient .read
    (fun t => match t with | .orderRead _ => true | _ => false) portFault) s

/-- LINK_READ_FAULT (R48). -/
def execLinkReadFault (s : State) : Host.Outcome State Fault Refusal :=
  live (respond walkerClient .read
    (fun t => match t with | .linkRead _ => true | _ => false) portFault) s

/-- ANCHOR_READ_FAULT (R163). -/
def execAnchorReadFault (s : State) : Host.Outcome State Fault Refusal :=
  live (respond walkerClient .read
    (fun t => match t with | .anchorRead _ => true | _ => false) portFault) s

/-- BOARD_HEADER_READ_FAULT (R164). -/
def execBoardHeaderReadFault (s : State) : Host.Outcome State Fault Refusal :=
  live (respond walkerClient .read
    (fun t => match t with | .headerRead _ => true | _ => false) portFault) s

/-- BOARD_WRITE_FAULT (R144). -/
def execBoardWriteFault (s : State) : Host.Outcome State Fault Refusal :=
  live (respond reporterClient .write
    (fun t => match t with
      | .streamStatusWrite _ _ => true
      | .laneStatusWrite _ _ => true
      | .summaryWrite _ _ => true
      | _ => false) portFault) s

/-! ### Response timeouts (R130) -/

/-- The timer of a client's oldest transaction in a direction runs out: it leaves the table as expired and
is handed to its client as a port fault of kind timeout. -/
def timeOut (c : Client) (d : Direction) (s : State) : State :=
  match oldest c d s with
  | none => s
  | some e =>
    if reached s.now e.timeout then portFault e.txn (raiseExpired c d (removeOldest c d s)) else s

/-- RESPONSE_TIMEOUT (R130). -/
def execResponseTimeout (c : Client) (d : Direction) (s : State) : Host.Outcome State Fault Refusal :=
  live (timeOut c d) s

end Sys2Proof.Machine
end

