-- ==== Sys2Proof/Machine/Receiver.lean ====
section
/-! DEFINITION. The Lane Receivers (chapter 5): symbols, lock, frames, staging, checks and the trigger line;
the meanings of the symbol commands and of TRIGGER_EDGE. -/

namespace Sys2Proof.Machine

/-! ### Settings from the snapshot (R118) -/

/-- Check policy of a lane. Without a snapshot no frame is offered, so nothing asks. -/
def checkPolicy (k : Lane) (s : State) : CheckPolicy :=
  match s.laneConfig? k with
  | some c => c.policy
  | none => .dropBad

/-- The gauge of the lane's offered frame after a payload byte (R111). -/
def gaugeAt (k : Lane) (s : State) (g : Gauging) (b : Byte) : Gauging :=
  match s.laneConfig? k with
  | some c => gaugeByte c.gauge c.overLevel g b
  | none => g

/-! ### Pieces of the receiver's state -/

/-- Change a lane's receiver. -/
def onLr (k : Lane) (f : Receiver → Receiver) (s : State) : State := s.setLr k (f (s.lr k))

/-- Change a receiver's counters. -/
def Receiver.bump (f : LaneCounters → LaneCounters) (r : Receiver) : Receiver :=
  { r with counters := f r.counters }

/-- Close the open frame, or put another in its place. -/
def Receiver.setFrame (x : Option OpenFrame) (r : Receiver) : Receiver := { r with frame := x }

/-- A frame opened by START, in its header phase (R99, R101). -/
def newFrame : Option OpenFrame := some (.header [] crcStart)

/-- A frame that was dispatched: offered or followed (R104, R105). -/
def AcceptedFrame.dispatched (a : AcceptedFrame) : Bool :=
  match a.disposition with
  | .discarded => false
  | .followed => true
  | .offered _ => true

/-- Report a frame that ends early lost, if it is an offered frame whose end is not reported (R102). -/
def loseIfOffered (k : Lane) (a : AcceptedFrame) (why : LossReason) (s : State) : State :=
  match a.disposition with
  | .offered _ => reportLoss k why s
  | .discarded | .followed => s

/-- Count an event for a dispatched frame only (R102). -/
def countIf (b : Bool) (f : LaneCounters → LaneCounters) (c : LaneCounters) : LaneCounters :=
  if b then f c else c

/-- One more length error. -/
def LaneCounters.lengthError (c : LaneCounters) : LaneCounters := { c with lengthErrors := c.lengthErrors + 1 }
/-- One more check failure. -/
def LaneCounters.checkFailure (c : LaneCounters) : LaneCounters :=
  { c with checkFailures := c.checkFailures + 1 }
/-- One more bad header. -/
def LaneCounters.badHeader (c : LaneCounters) : LaneCounters := { c with badHeaders := c.badHeaders + 1 }
/-- One more source abort. -/
def LaneCounters.sourceAbort (c : LaneCounters) : LaneCounters := { c with sourceAborts := c.sourceAborts + 1 }
/-- One more code violation. -/
def LaneCounters.violation (c : LaneCounters) : LaneCounters := { c with codeViolations := c.codeViolations + 1 }
/-- One more lock loss. -/
def LaneCounters.lockLoss (c : LaneCounters) : LaneCounters := { c with lockLosses := c.lockLosses + 1 }

/-! ### The checks at a frame's end (R103) -/

/-- The checks: the frame closes, counters rise for a dispatched frame, a good end clears the violation
count, and an offered frame's end or loss is reported by the lane's check policy. -/
def frameChecks (k : Lane) (a : AcceptedFrame) (checkFailed : Bool) (s : State) : State :=
  let lengthFailed := decide (a.received ≠ a.declared.toNat)
  let s := onLr k (fun r =>
    { r with
      frame := none
      lock := if checkFailed || lengthFailed then r.lock else .locked 0
      counters := countIf (a.dispatched && checkFailed) LaneCounters.checkFailure
        (countIf (a.dispatched && lengthFailed) LaneCounters.lengthError r.counters) }) s
  match a.disposition with
  | .discarded | .followed => s
  | .offered g =>
    if (checkFailed || lengthFailed) ∧ checkPolicy k s = .dropBad then
      reportLoss k (.checks checkFailed lengthFailed) s
    else reportEnd k { gauge := g.gauge, check := checkFailed, length := lengthFailed } s

/-! ### Payload bytes (R105, R108, R109, R111) -/

/-- A byte past the page end of a bound frame is taken by the Lane Writer and thrown away (R64, R109). -/
def pastPage (k : Lane) (s : State) : Bool :=
  match s.lw k with
  | .placing f p | .closing f p =>
    match s.order? f.stream with
    | some o => decide (o.pageSize ≤ p.offset + (s.lr k).staging.bytes.length)
    | none => false
  | .idle | .searching _ _ _ _ | .committing _ _ _ _ | .dropping _ => false

/-- The frame the writer holds is marked TRUNCATED (R64). -/
def markTruncated (k : Lane) (s : State) : State :=
  match s.lw k with
  | .placing f p => s.setLw k (.placing { f with truncated := true } p)
  | .closing f p => s.setLw k (.closing { f with truncated := true } p)
  | .idle | .searching _ _ _ _ | .committing _ _ _ _ | .dropping _ => s

/-- A payload byte of a frame being staged: it enters staging if there is room, passes if it lies past the
page end, and otherwise loses the frame to OVERFLOW (R108, R109). -/
def stageByte (k : Lane) (a : AcceptedFrame) (b : Byte) (s : State) : State :=
  let g := (s.lr k).staging
  if g.hasRoom then
    if pastPage k s then markTruncated k s
    else onLr k (fun r => { r with staging := { g with bytes := g.bytes ++ [b] } }) s
  else
    reportLoss k .overflow (onLr k (fun r =>
      { r with
        frame := some (.body { a with disposition := .followed })
        counters := { r.counters with overflows := r.counters.overflows + 1 } }) s)

/-- A data byte in the body phase. -/
def payloadByte (k : Lane) (a : AcceptedFrame) (b : Byte) (s : State) : State :=
  let a := { a with received := a.received + 1, crc := crcByte a.crc b }
  match a.disposition with
  | .discarded | .followed => onLr k (Receiver.setFrame (some (.body a))) s
  | .offered g =>
    let a := { a with disposition := .offered (gaugeAt k s g b) }
    let s := onLr k (Receiver.setFrame (some (.body a))) s
    if g.staging then stageByte k a b s else s

/-! ### Header bytes (R100, R104, R105) -/

/-- The accepted frame with its disposition. -/
def acceptedFrame (h : FrameHeader) (crc : Half) (d : Disposition) : AcceptedFrame :=
  { tag := h.tag, mark := h.mark, sourceNumber := h.sourceNumber, declared := h.declared
    disposition := d, received := 0, crc }

/-- The disposition an answer gives a dispatched frame (R105); the gauge starts at 0 (R111). -/
def StartAnswer.disposition : StartAnswer → Disposition
  | .offered => .offered { gauge := 0, low := none, staging := true }
  | .notOffered | .unbound => .followed

/-- A header is accepted: dispatched in RUNNING, discarded otherwise (R104). -/
def acceptHeader (k : Lane) (h : FrameHeader) (crc : Half) (s : State) : State :=
  if s.dc.device = .running then
    let r := frameStart k h s
    onLr k (fun lr =>
      { lr with
        frame := some (.body (acceptedFrame h crc r.1.disposition))
        counters := { lr.counters with
          framesStarted := lr.counters.framesStarted + 1
          unbound := if r.1 = .unbound then lr.counters.unbound + 1 else lr.counters.unbound } }) r.2
  else
    onLr k (fun lr =>
      { lr with
        frame := some (.body (acceptedFrame h crc .discarded))
        counters := { lr.counters with refused := lr.counters.refused + 1 } }) s

/-- A data byte in the header phase; the eighth is checked (R100). -/
def headerByte (k : Lane) (bytes : List Byte) (crc : Half) (b : Byte) (s : State) : State :=
  let crc := crcByte crc b
  let bytes := bytes ++ [b]
  if bytes.length < 8 then onLr k (Receiver.setFrame (some (.header bytes crc))) s
  else
    match parseFrameHeader bytes with
    | some h =>
      if h.accepted then acceptHeader k h crc s
      else onLr k (fun r => (r.bump LaneCounters.badHeader).setFrame none) s
    | none => onLr k (fun r => (r.bump LaneCounters.badHeader).setFrame none) s

/-! ### Symbols (R95, R97, R98, R102) -/

/-- A symbol other than IDLE reaches a HUNTING receiver: its IDLE run is set to 0 (R97). -/
def clearRun (k : Lane) (s : State) : State := onLr k (fun r => { r with lock := .hunting 0 }) s

/-- An IDLE symbol (R95, R97). -/
def idleSymbol (k : Lane) (s : State) : State :=
  match (s.lr k).lock with
  | .off => s
  | .locked _ => s
  | .hunting run =>
    onLr k (fun r =>
      { r with lock := if run + 1 = Config.lockRun then .locked 0 else .hunting (run + 1) }) s

/-- IDLE_SYMBOL (R97). -/
def execIdleSymbol (k : Lane) (s : State) : Host.Outcome State Fault Refusal := live (idleSymbol k) s

/-- START in an open frame's body or CRC phase (R102). -/
def startCuts (k : Lane) (a : AcceptedFrame) (s : State) : State :=
  loseIfOffered k a .lengthByStart
    (onLr k (fun r => (r.bump (countIf a.dispatched LaneCounters.lengthError)).setFrame newFrame) s)

/-- A START symbol (R95, R102). -/
def startSymbol (k : Lane) (s : State) : State :=
  match (s.lr k).lock with
  | .off => s
  | .hunting _ => clearRun k s
  | .locked _ =>
    match (s.lr k).frame with
    | none => onLr k (Receiver.setFrame newFrame) s
    | some (.header _ _) => onLr k (fun r => (r.bump LaneCounters.badHeader).setFrame newFrame) s
    | some (.body a) => startCuts k a s
    | some (.crc a _) => startCuts k a s

/-- START_SYMBOL (R102). -/
def execStartSymbol (k : Lane) (s : State) : Host.Outcome State Fault Refusal := live (startSymbol k) s

/-- An END symbol (R95, R102). -/
def endSymbol (k : Lane) (s : State) : State :=
  match (s.lr k).lock with
  | .off => s
  | .hunting _ => clearRun k s
  | .locked _ =>
    match (s.lr k).frame with
    | none => s
    | some (.header _ _) => onLr k (fun r => (r.bump LaneCounters.badHeader).setFrame none) s
    | some (.body a) => onLr k (Receiver.setFrame (some (.crc a none))) s
    | some (.crc a _) => frameChecks k a true s

/-- END_SYMBOL (R102). -/
def execEndSymbol (k : Lane) (s : State) : Host.Outcome State Fault Refusal := live (endSymbol k) s

/-- ABORT in an open frame's body or CRC phase (R102). -/
def abortCuts (k : Lane) (a : AcceptedFrame) (s : State) : State :=
  loseIfOffered k a .sourceAbort
    (onLr k (fun r => (r.bump (countIf a.dispatched LaneCounters.sourceAbort)).setFrame none) s)

/-- An ABORT symbol (R95, R102). -/
def abortSymbol (k : Lane) (s : State) : State :=
  match (s.lr k).lock with
  | .off => s
  | .hunting _ => clearRun k s
  | .locked _ =>
    match (s.lr k).frame with
    | none => s
    | some (.header _ _) => onLr k (fun r => (r.bump LaneCounters.sourceAbort).setFrame none) s
    | some (.body a) => abortCuts k a s
    | some (.crc a _) => abortCuts k a s

/-- ABORT_SYMBOL (R102). -/
def execAbortSymbol (k : Lane) (s : State) : Host.Outcome State Fault Refusal := live (abortSymbol k) s

/-- The frame a code violation ends is lost if it is offered: VIOLATION, or LINK_LOST on the fourth
violation counted (R98, R102). -/
def loseOpen (k : Lane) (f : Option OpenFrame) (why : LossReason) (s : State) : State :=
  match f with
  | some (.body a) => loseIfOffered k a why s
  | some (.crc a _) => loseIfOffered k a why s
  | some (.header _ _) | none => s

/-- A code violation (R97, R98). -/
def codeViolation (k : Lane) (s : State) : State :=
  match (s.lr k).lock with
  | .off => s
  | .hunting _ => onLr k (fun r => { (r.bump LaneCounters.violation) with lock := .hunting 0 }) s
  | .locked v =>
    let frame := (s.lr k).frame
    if v + 1 = Config.lockViolations then
      loseOpen k frame .linkLost (onLr k (fun r =>
        { (r.bump LaneCounters.violation).bump LaneCounters.lockLoss with
          lock := .hunting 0, frame := none }) s)
    else
      loseOpen k frame .violation (onLr k (fun r =>
        { (r.bump LaneCounters.violation) with lock := .locked (v + 1), frame := none }) s)

/-- CODE_VIOLATION (R98). -/
def execCodeViolation (k : Lane) (s : State) : Host.Outcome State Fault Refusal :=
  live (codeViolation k) s

/-- A data byte (R95, R97, R102). -/
def dataByte (k : Lane) (b : Byte) (s : State) : State :=
  match (s.lr k).lock with
  | .off => s
  | .hunting _ => clearRun k s
  | .locked _ =>
    match (s.lr k).frame with
    | none => s
    | some (.header bytes crc) => headerByte k bytes crc b s
    | some (.body a) => payloadByte k a b s
    | some (.crc a none) => onLr k (Receiver.setFrame (some (.crc a (some b)))) s
    | some (.crc a (some lo)) => frameChecks k a (decide (b ++ lo ≠ a.crc)) s

/-- DATA_BYTE (R102). -/
def execDataByte (k : Lane) (b : Byte) (s : State) : Host.Outcome State Fault Refusal :=
  live (dataByte k b) s

/-! ### The trigger line (R113, R114) -/

/-- The direction of an edge to a level. -/
def edgeTo (level : Bool) : Edge := if level then .rise else .fall

/-- The level after an edge. -/
def edgeLevel : Edge → Bool
  | .rise => true
  | .fall => false

/-- The one sample of a lane's trigger line in the microsecond under way, unless it has been taken. The
first after the receiver leaves OFF sets the held level and makes no edge; one that differs from the held
level is an edge, reported to the SCT (R113, R114). -/
def sampleLine (k : Lane) (s : State) : State :=
  let r := s.lr k
  if r.lock = .off ∨ r.sampled = true then s
  else
    let s' := s.setLr k { r with heldLevel := some r.line, sampled := true }
    match r.heldLevel with
    | none => s'
    | some held => if held = r.line then s' else takeEdge k (edgeTo r.line) s'

/-- The trigger line moves to a level. -/
def moveLine (k : Lane) (level : Bool) (s : State) : State := onLr k (fun r => { r with line := level }) s

/-- TRIGGER_EDGE (R78, R113): the line has the level after the edge, and the sampler takes its sample of
this microsecond, if it has not yet (log entry 7). A part held in reset samples nothing, but the pin still
moves. -/
def execTriggerEdge (k : Lane) (e : Edge) (s : State) : Host.Outcome State Fault Refusal :=
  live (sampleLine k) (moveLine k (edgeLevel e) s)

end Sys2Proof.Machine
end

