-- ==== Sys2Proof/WellFormed.lean ====
section
/-! DEFINITION. Which terms of `Instr` are commands of their row. Most operand ranges are carried by the
operand's type (a lane is 0 to 11, a stream 0 to 23); two rows restrict their operands further. -/

namespace Sys2Proof

/-- A Register Port write that the row REGISTER_WRITE_OTHER covers (R167): a byte enable is clear, the
address is not a multiple of 4, or the register is IDENT (0x00) or STATE (0x08). -/
def writeHasNoEffect (offset : BitVec 5) (enables : BitVec 4) : Bool :=
  enables != 0xF#4 || offset.toNat % 4 != 0 || offset == 0x00#5 || offset == 0x08#5

/-- A CONTROL encoding that names none of the commands (section 10.10): 6 or more. -/
def unknownEncoding (value : Word) : Bool := decide (6 ≤ value.toNat)

/-- The command belongs to the row its constructor names. -/
def Instr.wellFormed : Instr → Bool
  | .unknownCommand v => unknownEncoding v
  | .registerWriteOther o e _ => writeHasNoEffect o e
  | .enable | .quiesce | .reset | .irqOn | .irqOff | .noCommand
  | .boardLoWrite _ | .boardHiWrite _ | .attendWrite _ | .seenWrite _ | .causeWrite _ | .powerOnReset
  | .idleSymbol _ | .startSymbol _ | .endSymbol _ | .abortSymbol _ | .dataByte _ _ | .codeViolation _
  | .triggerEdge _ _ | .armDeadlineExpiry _ | .sweepExpiry | .laneRefreshExpiry
  | .responseTimeout _ _ | .grant | .issueAccepted | .lateResponse _ _
  | .anchorJob | .fetchJob | .linkJob | .orderReadIssue | .anchorReadDone _
  | .start _ _ _ _ _ _ _ | .halt _ _ | .resume _ _ | .forget _ _
  | .orderReadDone _ | .linkReadDone _ | .boardHeaderReadDone _
  | .slotReadDone _ _ | .dataWriteDone _ | .metadataWriteDone | .fillWriteDone
  | .deviceHalfWriteDone | .publicationBegin | .streamStatusWriteDone | .summaryWriteDone
  | .laneStatusWriteDone | .slotReadFault _ | .dataWriteFault _ | .commitWriteFault
  | .deviceHalfWriteFault | .orderReadFault | .linkReadFault | .anchorReadFault
  | .boardHeaderReadFault | .boardWriteFault | .quiescePoint | .drainLaneRefresh
  | .closingPublication | .resetComplete | .resetInputReleased => true

end Sys2Proof
end

