-- ==== Sys2Proof/Machine/Control.lean ====
section
/-! DEFINITION. Device Control (chapter 9): the Register Port's writes, the device's transitions, the Board
header load with the entry to RUNNING, the resets and the microsecond tick; the meanings of their commands. -/

namespace Sys2Proof.Machine

/-! ### CONTROL commands (R169, R170) -/

/-- ENABLE: taken in OFF and QUIET, where it begins LOADING; refused in any other state (R170, R174). -/
def controlEnable (s : State) : State :=
  match s.dc.device with
  | .off => (s.setDevice (.loading ⟨.off, [], false⟩)).setResult .taken
  | .quiet => (s.setDevice (.loading ⟨.quiet, [], false⟩)).setResult .taken
  | .loading _ | .running | .quiescing | .resetting | .broken => s.setResult .refused

/-- Entry to QUIESCING (R180): queued jobs are dropped, the sweep and lane refresh timers stop. -/
def enterQuiescing (s : State) : State :=
  { s with
    dc := { s.dc with device := .quiescing }
    walker := { s.walker with queue := [], sweepDue := none }
    rw := { s.rw with refreshDue := none, drain := .notBegun } }

/-- QUIESCE: taken in RUNNING, refused in any other state (R170, R180). -/
def controlQuiesce (s : State) : State :=
  if s.dc.device = .running then (enterQuiescing s).setResult .taken else s.setResult .refused

/-- The Report Writer on entry to RESETTING (R148). -/
def Reporter.resetting (r : Reporter) : Reporter :=
  { r with
    pendingSet := Vector.replicate 24 false, publication := none, queue := [], laneUnanswered := 0
    refreshDue := none }

/-- Entry to RESETTING (R182): frames and the walker's work are abandoned, the Report Writer's queue and
pending set emptied; the port drains. -/
def enterResetting (s : State) : State :=
  let s := abandonLanes s
  { s with dc := { s.dc with device := .resetting }, walker := Walker.reset, rw := s.rw.resetting }

/-- RESET: taken in every state; in RESETTING it has no further effect (R170, R182). -/
def controlReset (s : State) : State :=
  if s.dc.device = .resetting then s.setResult .taken else (enterResetting s).setResult .taken

/-- IRQ_ON and IRQ_OFF: taken in every state (R170). -/
def controlIrq (on : Bool) (s : State) : State :=
  ({ s with dc := { s.dc with irqEnable := on } }).setResult .taken

/-- A write to CONTROL (10.10): the whole register is the command field, and a value of 6 or more is an
unknown encoding, refused (R167). -/
def controlWrite (value : Word) (s : State) : State :=
  if value = 0 then s
  else if value = 1 then controlEnable s
  else if value = 2 then controlQuiesce s
  else if value = 3 then controlReset s
  else if value = 4 then controlIrq true s
  else if value = 5 then controlIrq false s
  else s.setResult .refused

/-! ### The other registers -/

/-- The Board address registers take writes in OFF and QUIET only (R171). -/
abbrev State.boardWritable (s : State) : Prop := s.dc.device = .off ∨ s.dc.device = .quiet

/-- A write to BOARD_LO, whose low 12 bits are discarded (R171). -/
def boardLoWrite (value : Word) (s : State) : State :=
  if s.boardWritable then
    ({ s with dc := { s.dc with boardLo := value &&& 0xFFFFF000#32 } }).setResult .taken
  else s.setResult .refused

/-- A write to BOARD_HI (R171). -/
def boardHiWrite (value : Word) (s : State) : State :=
  if s.boardWritable then ({ s with dc := { s.dc with boardHi := value } }).setResult .taken
  else s.setResult .refused

/-- A write to ATTEND (R32, R172): the state test is made first. -/
def attendWrite (value : Word) (s : State) : State :=
  if s.dc.device = .running then
    if h : value.toNat < 24 then (attend ⟨value.toNat, h⟩ s).setResult .taken
    else s.setResult .badStream
  else s.setResult .ignored

/-- A write to SEEN (R150). -/
def seenWrite (value : Word) (s : State) : State := { s with dc := { s.dc with seen := value } }

/-- A write to CAUSE clears each bit written 1 (R162). -/
def causeWrite (value : Word) (s : State) : State :=
  { s with dc := { s.dc with cause := s.dc.cause &&& ~~~ value.setWidth 4 } }

/-- A write at the Register Port (R167): without effect with a byte enable clear, at an address that is no
multiple of 4, or at a read-only register; else at the register it names. -/
def portWrite (offset : BitVec 5) (enables : BitVec 4) (value : Word) (s : State) : State :=
  if writeHasNoEffect offset enables then s
  else match offset.toNat / 4 with
    | 1 => controlWrite value s
    | 3 => boardLoWrite value s
    | 4 => boardHiWrite value s
    | 5 => attendWrite value s
    | 6 => seenWrite value s
    | 7 => causeWrite value s
    | _ => s

/-- ENABLE (R174). -/
def execEnable (s : State) : Host.Outcome State Fault Refusal := live controlEnable s
/-- QUIESCE (R180). -/
def execQuiesce (s : State) : Host.Outcome State Fault Refusal := live controlQuiesce s
/-- RESET (R182). -/
def execReset (s : State) : Host.Outcome State Fault Refusal := live controlReset s
/-- IRQ_ON (R170). -/
def execIrqOn (s : State) : Host.Outcome State Fault Refusal := live (controlIrq true) s
/-- IRQ_OFF (R170). -/
def execIrqOff (s : State) : Host.Outcome State Fault Refusal := live (controlIrq false) s
/-- NONE (R169): nothing happens. -/
def execNoCommand (s : State) : Host.Outcome State Fault Refusal := live (fun s => s) s
/-- UNKNOWN_COMMAND (R167): the write of its value to CONTROL. -/
def execUnknownCommand (value : Word) (s : State) : Host.Outcome State Fault Refusal :=
  live (controlWrite value) s
/-- BOARD_LO_WRITE (R171). -/
def execBoardLoWrite (value : Word) (s : State) : Host.Outcome State Fault Refusal :=
  live (boardLoWrite value) s
/-- BOARD_HI_WRITE (R171). -/
def execBoardHiWrite (value : Word) (s : State) : Host.Outcome State Fault Refusal :=
  live (boardHiWrite value) s
/-- ATTEND_WRITE (R172). -/
def execAttendWrite (value : Word) (s : State) : Host.Outcome State Fault Refusal :=
  live (attendWrite value) s
/-- SEEN_WRITE (R150). -/
def execSeenWrite (value : Word) (s : State) : Host.Outcome State Fault Refusal :=
  live (seenWrite value) s
/-- CAUSE_WRITE (R162). -/
def execCauseWrite (value : Word) (s : State) : Host.Outcome State Fault Refusal :=
  live (causeWrite value) s
/-- REGISTER_WRITE_OTHER (R167): the write at the Register Port, which for this row has no effect. -/
def execRegisterWriteOther (offset : BitVec 5) (enables : BitVec 4) (value : Word) (s : State) :
    Host.Outcome State Fault Refusal := live (portWrite offset enables value) s

/-! ### Entry to RUNNING (R177) -/

/-- A receiver takes its lane's new enable (R118). -/
def Receiver.configure (enabled : Bool) (r : Receiver) : Receiver :=
  if enabled then
    match r.lock with
    | .off => { r with lock := .hunting 0 }
    | .hunting _ => r
    | .locked _ => r
  else { r with lock := .off, frame := none, heldLevel := none, sampled := false }

/-- The ANCHOR jobs queued at entry to RUNNING (R34). -/
def anchorJobs : List Job := allStreams.map fun st => ⟨st, .anchor⟩

/-- The new snapshot is in force and receivers, port, walker and the refresh timer take their entry to
RUNNING (R33, R34, R118, R124, R126, R145). -/
def startRunning (n : Snapshot) (s : State) : State :=
  { s with
    dc := { s.dc with device := .running, snapshot := some n }
    receivers := Vector.ofFn fun k => (s.lr k).configure n.lanes[k.val].enabled
    walker := { queue := anchorJobs, inHand := none, sweepDue := sweepFrom n s.now }
    port := { s.port with
      deficits := Vector.replicate 14 0, position := none, urgentPointer := 0 }
    rw := { s.rw with refreshDue := some (refreshFrom n s.now), drain := .notBegun } }

/-- The status write of the initial publication for a stream (R146). -/
def initialStatusWrite (s : State) (st : StreamId) : Txn :=
  .streamStatusWrite (streamStatusAddress st s) ⟨Context.reset, 0⟩

/-- From OFF: the initial publication is set pending, its 24 status writes made, and a lane refresh begun
(R146). -/
def beginInitialPublication (s : State) : State :=
  beginLaneRefresh (enqueueAll (allStreams.map (initialStatusWrite s))
    { s with rw := { s.rw with initial := .pending 24 false } })

/-- A stream bound to a lane the new snapshot disables is faulted LANE_DISABLED; its current order's FAULT
retirement write is made only if the record lies inside the new window (R157). -/
def laneDisabledFault (st : StreamId) (b : Binding) (s : State) : State :=
  let s' := streamFault st .laneDisabled s
  match s.order? st with
  | none => s'
  | some o =>
    if insideWindow (s.window b.window) o.address 128 then
      handHalf st o.address (o.half .fault .laneDisabled s.now) s'
    else s'

/-- The current order fails the window test at entry: retired WINDOW, with no write when the record itself
lies outside (R178). The answer is none when every range lies inside. -/
def windowRetest (st : StreamId) (b : Binding) (o : CurrentOrder) (s : State) : Option State :=
  let w := s.window b.window
  if insideWindow w o.address 128 then
    (o.params.outside w).map fun r => retire st .window r (fun o => .fetching (linkOf o)) s
  else some (enter st (.fetching (linkOf o)) s)

/-- The arm deadline of an order that stays ARMED, tested at entry (R179). -/
def deadlineRetest (st : StreamId) (deadline : Option Time) (s : State) : State :=
  match deadline with
  | none => s
  | some due =>
    if reached s.now due then retire st .noTrigger .pastAtEnable (fun o => .fetching (linkOf o)) s
    else s

/-- The tests a stream is given at entry to RUNNING from QUIET, the first that applies deciding (R157, R178,
R179). -/
def entryTest (st : StreamId) (s : State) : State :=
  match s.standing st with
  | .idle => s
  | .bound b p =>
    if !s.laneEnabled b.lane then laneDisabledFault st b s
    else match p with
      | .armed o deadline => (windowRetest st b o s).getD (deadlineRetest st deadline s)
      | .capturing o => (windowRetest st b o s).getD s
      | .fetching _ | .halting _ | .halted _ | .parked _ | .faulted _ => s

/-- From QUIET: the SCT's tests, all 24 streams made pending, and a lane refresh begun (R146, R178). -/
def resumeFromQuiet (s : State) : State :=
  let s := allStreams.foldl (fun s st => entryTest st s) s
  beginLaneRefresh { s with rw := { s.rw with pendingSet := Vector.replicate 24 true } }

/-- LOADING has succeeded: every block takes its entry to RUNNING in one step (R177). -/
def enterRunning (origin : LoadOrigin) (n : Snapshot) (s : State) : State :=
  match origin with
  | .off => beginInitialPublication (startRunning n s)
  | .quiet => resumeFromQuiet (startRunning n s)

/-- A Board header read completes; after the fourth the candidate is validated (R174 to R177). -/
def headerReadOk (data : Read128) (s : State) : State :=
  match s.dc.device with
  | .loading l =>
    let parts := l.parts ++ [data]
    if parts.length < 4 then s.setDevice (.loading { l with parts, issued := false })
    else match parseHeader (headerOf parts) with
      | .ok n => enterRunning l.origin n s
      | .error _ => failLoad causeConfigBad s
  | .off | .running | .quiescing | .quiet | .resetting | .broken => s

/-- BOARD_HEADER_READ_DONE (R174). -/
def execBoardHeaderReadDone (data : Read128) (s : State) : Host.Outcome State Fault Refusal :=
  live (respond walkerClient .read
    (fun t => match t with | .headerRead _ => true | _ => false) (fun _ => headerReadOk data)) s

/-! ### Resets (R182, R183) -/

/-- Device Control when a soft RESET reaches OFF: the Board address is kept (R182, R183). -/
def Control.softReset (c : Control) : Control :=
  { Control.reset with boardLo := c.boardLo, boardHi := c.boardHi, resetAsserted := c.resetAsserted }

/-- Every block at its reset values, but for what the pins say and the model's own fields. -/
def resetBlocks (s : State) : State :=
  { s with
    streams := Vector.replicate 24 Context.reset
    walker := Walker.reset
    receivers := s.receivers.map fun r => { Receiver.reset with line := r.line }
    writers := Vector.replicate 12 .idle
    rw := Reporter.reset
    port := MemoryPort.reset }

/-- RESETTING reaches OFF once the outstanding table is empty (R134, R182). The issue point belongs to the
interconnect until it accepts (R130, log entry 17). -/
def resetComplete (s : State) : State :=
  if s.dc.device = .resetting ∧ s.port.table = [] then
    let s' := resetBlocks s
    { s' with dc := s.dc.softReset, port := { s'.port with issuePoint := s.port.issuePoint } }
  else s

/-- RESET_COMPLETE (R182). -/
def execResetComplete (s : State) : Host.Outcome State Fault Refusal := live resetComplete s

/-- The reset input is asserted, or power is applied: every block takes its reset values at once (R183). -/
def powerOnReset (s : State) : State :=
  { resetBlocks s with dc := { Control.reset with resetAsserted := true } }

/-- POWER_ON_RESET (R183): taken whether or not the part is already held in reset. -/
def execPowerOnReset (s : State) : Host.Outcome State Fault Refusal := .next (powerOnReset s)

/-- RESET_INPUT_RELEASED (R183): the part begins working from its reset values. -/
def execResetInputReleased (s : State) : Host.Outcome State Fault Refusal :=
  .next { s with dc := { s.dc with resetAsserted := false } }

/-! ### The microsecond (R113, R184; log entry 1) -/

/-- A new microsecond begins at a receiver: its sample is still to be taken (R113). -/
def Receiver.newMicrosecond (r : Receiver) : Receiver := { r with sampled := false }

/-- A microsecond ends: every receiver that is not OFF and has not sampled its trigger line in it samples
the line (R113), and the time base rises by one (R184). A part held in reset counts no time. -/
def tick (s : State) : State :=
  if s.dc.resetAsserted then s
  else
    let s := allLanes.foldl (fun s k => sampleLine k s) s
    { s with
      dc := { s.dc with timeBase := s.dc.timeBase + 1 }
      receivers := s.receivers.map Receiver.newMicrosecond }

end Sys2Proof.Machine
end

