-- ==== Sys2Proof/Machine/Dispatch.lean ====
section
/-! DEFINITION. The dispatcher: one arm per command, each a call of that command's meaning. -/

namespace Sys2Proof.Machine

/-- The effect of a command on everything but the queue of waiting commands. -/
def exec (i : Instr) (s : State) : Host.Outcome State Fault Refusal :=
  match i with
  | .enable => Sys2Proof.Machine.execEnable s
  | .quiesce => Sys2Proof.Machine.execQuiesce s
  | .reset => Sys2Proof.Machine.execReset s
  | .irqOn => Sys2Proof.Machine.execIrqOn s
  | .irqOff => Sys2Proof.Machine.execIrqOff s
  | .noCommand => Sys2Proof.Machine.execNoCommand s
  | .unknownCommand v => Sys2Proof.Machine.execUnknownCommand v s
  | .boardLoWrite v => Sys2Proof.Machine.execBoardLoWrite v s
  | .boardHiWrite v => Sys2Proof.Machine.execBoardHiWrite v s
  | .attendWrite v => Sys2Proof.Machine.execAttendWrite v s
  | .seenWrite v => Sys2Proof.Machine.execSeenWrite v s
  | .causeWrite v => Sys2Proof.Machine.execCauseWrite v s
  | .registerWriteOther o e v => Sys2Proof.Machine.execRegisterWriteOther o e v s
  | .powerOnReset => Sys2Proof.Machine.execPowerOnReset s
  | .idleSymbol k => Sys2Proof.Machine.execIdleSymbol k s
  | .startSymbol k => Sys2Proof.Machine.execStartSymbol k s
  | .endSymbol k => Sys2Proof.Machine.execEndSymbol k s
  | .abortSymbol k => Sys2Proof.Machine.execAbortSymbol k s
  | .dataByte k b => Sys2Proof.Machine.execDataByte k b s
  | .codeViolation k => Sys2Proof.Machine.execCodeViolation k s
  | .triggerEdge k e => Sys2Proof.Machine.execTriggerEdge k e s
  | .armDeadlineExpiry st => Sys2Proof.Machine.execArmDeadlineExpiry st s
  | .sweepExpiry => Sys2Proof.Machine.execSweepExpiry s
  | .laneRefreshExpiry => Sys2Proof.Machine.execLaneRefreshExpiry s
  | .responseTimeout c d => Sys2Proof.Machine.execResponseTimeout c d s
  | .grant => Sys2Proof.Machine.execGrant s
  | .issueAccepted => Sys2Proof.Machine.execIssueAccepted s
  | .lateResponse c d => Sys2Proof.Machine.execLateResponse c d s
  | .anchorJob => Sys2Proof.Machine.execAnchorJob s
  | .fetchJob => Sys2Proof.Machine.execFetchJob s
  | .linkJob => Sys2Proof.Machine.execLinkJob s
  | .orderReadIssue => Sys2Proof.Machine.execOrderReadIssue s
  | .anchorReadDone d => Sys2Proof.Machine.execAnchorReadDone d s
  | .start st n k t w r h => Sys2Proof.Machine.execStart st n k t w r h s
  | .halt st n => Sys2Proof.Machine.execHalt st n s
  | .resume st n => Sys2Proof.Machine.execResume st n s
  | .forget st n => Sys2Proof.Machine.execForget st n s
  | .orderReadDone d => Sys2Proof.Machine.execOrderReadDone d s
  | .linkReadDone d => Sys2Proof.Machine.execLinkReadDone d s
  | .boardHeaderReadDone d => Sys2Proof.Machine.execBoardHeaderReadDone d s
  | .slotReadDone k d => Sys2Proof.Machine.execSlotReadDone k d s
  | .dataWriteDone k => Sys2Proof.Machine.execDataWriteDone k s
  | .metadataWriteDone => Sys2Proof.Machine.execMetadataWriteDone s
  | .fillWriteDone => Sys2Proof.Machine.execFillWriteDone s
  | .deviceHalfWriteDone => Sys2Proof.Machine.execDeviceHalfWriteDone s
  | .publicationBegin => Sys2Proof.Machine.execPublicationBegin s
  | .streamStatusWriteDone => Sys2Proof.Machine.execStreamStatusWriteDone s
  | .summaryWriteDone => Sys2Proof.Machine.execSummaryWriteDone s
  | .laneStatusWriteDone => Sys2Proof.Machine.execLaneStatusWriteDone s
  | .slotReadFault k => Sys2Proof.Machine.execSlotReadFault k s
  | .dataWriteFault k => Sys2Proof.Machine.execDataWriteFault k s
  | .commitWriteFault => Sys2Proof.Machine.execCommitWriteFault s
  | .deviceHalfWriteFault => Sys2Proof.Machine.execDeviceHalfWriteFault s
  | .orderReadFault => Sys2Proof.Machine.execOrderReadFault s
  | .linkReadFault => Sys2Proof.Machine.execLinkReadFault s
  | .anchorReadFault => Sys2Proof.Machine.execAnchorReadFault s
  | .boardHeaderReadFault => Sys2Proof.Machine.execBoardHeaderReadFault s
  | .boardWriteFault => Sys2Proof.Machine.execBoardWriteFault s
  | .quiescePoint => Sys2Proof.Machine.execQuiescePoint s
  | .drainLaneRefresh => Sys2Proof.Machine.execDrainLaneRefresh s
  | .closingPublication => Sys2Proof.Machine.execClosingPublication s
  | .resetComplete => Sys2Proof.Machine.execResetComplete s
  | .resetInputReleased => Sys2Proof.Machine.execResetInputReleased s

end Sys2Proof.Machine
end

