-- ==== Sys2Proof/Safety.lean ====
section
/-! DEFINITION. What it means for the part to be in order: the laws the spec says the part keeps, as
predicates over one state, and the words the statements are written in. -/

namespace Sys2Proof.Machine

/-! ### Words of the statements -/

/-- The reset input is released, so the part takes commands (R183). -/
abbrev State.awake (s : State) : Prop := s.dc.resetAsserted = false

/-- A response for a transaction's client and direction ends that transaction: nothing expired is owed a
response, and it is the oldest outstanding one (R128, R131). -/
structure Answers (s : State) (t : Txn) : Prop where
  awake : s.awake
  noneExpired : s.expired t.client t.direction = 0
  isOldest : (oldest t.client t.direction s).map Entry.txn = some t

/-- The state with that transaction taken out of the outstanding table and nothing else changed. -/
abbrev State.ended (s : State) (t : Txn) : State := removeOldest t.client t.direction s

/-- The table with its first entry of a client and direction taken out. -/
def TableLess (before after : List Entry) (c : Client) (d : Direction) (e : Entry) : Prop :=
  ∃ older younger, before = older ++ e :: younger ∧ after = older ++ younger
    ∧ e.isOf c d = true ∧ ∀ x ∈ older, x.isOf c d = false

/-- A receiver that has given up its frame: staging is empty, and a dispatched frame still open is followed
as a discarded one (R119). All else stays. -/
def Receiver.givenUp (r : Receiver) : Receiver :=
  { r with
    staging := Staging.empty
    frame := match r.frame with
      | none => none
      | some (.header b c) => some (.header b c)
      | some (.body a) => some (.body { a with disposition := .discarded })
      | some (.crc a first) => some (.crc { a with disposition := .discarded } first) }

/-- A receiver told to stop staging: staging is empty, and an offered frame still open is staged no more
(R60, R106, R109). All else stays. -/
def Receiver.unstaged (r : Receiver) : Receiver :=
  let off (a : AcceptedFrame) : AcceptedFrame := match a.disposition with
    | .offered g => { a with disposition := .offered { g with staging := false } }
    | .discarded => a
    | .followed => a
  { r with
    staging := Staging.empty
    frame := match r.frame with
      | none => none
      | some (.header b c) => some (.header b c)
      | some (.body a) => some (.body (off a))
      | some (.crc a first) => some (.crc (off a) first) }

/-- The row that is the error response of a transaction (R129). -/
def Txn.faultRow : Txn → Instr
  | .slotRead k _ => .slotReadFault k
  | .dataWrite k _ _ => .dataWriteFault k
  | .metadataWrite _ _ _ => .commitWriteFault
  | .fillWrite _ _ _ => .commitWriteFault
  | .anchorRead _ => .anchorReadFault
  | .orderRead _ => .orderReadFault
  | .linkRead _ => .linkReadFault
  | .headerRead _ => .boardHeaderReadFault
  | .deviceHalfWrite _ _ _ _ => .deviceHalfWriteFault
  | .streamStatusWrite _ _ => .boardWriteFault
  | .laneStatusWrite _ _ => .boardWriteFault
  | .summaryWrite _ _ => .boardWriteFault

/-- A transaction made for the frame of lane `k`: its Lane Writer's own, or the Report Writer's for the
frame's commit (R58, R63, R69). -/
def Txn.ofLane (k : Lane) : Txn → Bool
  | .slotRead x _ => x == k
  | .dataWrite x _ _ => x == k
  | .metadataWrite x _ _ => x == k
  | .fillWrite x _ _ => x == k
  | _ => false

/-- A read of the walker's job in hand: of an anchor, an order or a link (R36). -/
def Txn.isJobRead : Txn → Bool
  | .anchorRead _ | .orderRead _ | .linkRead _ => true
  | _ => false

/-- A device-half write (R29). -/
def Txn.isDeviceHalf : Txn → Bool
  | .deviceHalfWrite _ _ _ _ => true
  | _ => false

/-- A stream status write (R141). -/
def Txn.isStreamStatus : Txn → Bool
  | .streamStatusWrite _ _ => true
  | _ => false

/-- A lane status write (R145). -/
def Txn.isLaneStatus : Txn → Bool
  | .laneStatusWrite _ _ => true
  | _ => false

/-- A Summary write (R142). -/
def Txn.isSummary : Txn → Bool
  | .summaryWrite _ _ => true
  | _ => false

/-- How many transactions of a kind have been made and not ended: those in the Report Writer's queue and
those outstanding. -/
def State.unended (s : State) (kind : Txn → Bool) : Nat :=
  s.rw.queue.countP kind + s.port.table.countP fun e => kind e.txn

/-- The phase of a stream whose order may have a frame in flight: CAPTURING, or HALTING (R5, R18). -/
def Phase.current (halting : Bool) (o : CurrentOrder) : Phase :=
  if halting then .halting o else .capturing o

/-- The state once a stream's frame in flight has ended, its order `o` counted with it and not completed by
it: a CAPTURING stream goes on; a HALTING one has its order retired CUT with reason HALTED_IN_FLIGHT and is
HALTED with the order's link step (R19). -/
def State.frameOver (s : State) (st : StreamId) (b : Binding) (halting : Bool) (o : CurrentOrder) : State :=
  if halting then
    { s.setStanding st (.bound b (.halted (.link o.address false))) with rw := { s.rw with
      pendingSet := s.rw.pendingSet.set st.val true
      queue := s.rw.queue ++ [.deviceHalfWrite st false o.address
        ⟨.cut, .haltedInFlight, o.counters, o.acceptTime, s.now⟩] } }
  else s.setStanding st (.bound b (.capturing o))

/-- The order with one more frame lost (R90). -/
def CurrentOrder.oneLost (o : CurrentOrder) : CurrentOrder :=
  { o with counters := { o.counters with lost := o.counters.lost + 1 } }

/-- `got` is what the frame-end decision makes of the state `x`, for the frame `f` of order `o` placed at `p`
with no write outstanding and ended with `e`: counted gated if it fails the gate, else its commit is handed
over as the metadata write of its slot, with GAP and MARGIN now among its flags (R19, R66, R67, R68, R87). -/
def EndDecision (k : Lane) (x : State) (f : FlightFrame) (p : Placement) (e : FrameEnd) (b : Binding)
    (halting : Bool) (o : CurrentOrder) (got : State) : Prop :=
  let level := o.params.gateLevel.toNat
  let passes : Prop := o.params.gate = .none ∨ (o.params.gate = .atOrAbove ∧ level ≤ e.gauge.toNat)
    ∨ (o.params.gate = .below ∧ e.gauge.toNat < level)
  (¬ passes → got = (x.setLw k .idle).frameOver f.stream b halting
      { o with counters := { o.counters with gated := o.counters.gated + 1 } })
  ∧ (passes → ∃ (m : SlotMeta) (gap : Bool) (missedBy : Half),
    got = { x.setLw k (.committing { f with gap, margin := o.params.gate != .none }
        { p with outstanding := 0 } .metadata missedBy) with
      rw := { x.rw with queue := x.rw.queue ++ [.metadataWrite k
        (o.params.slotTable + BitVec.ofNat 64 (32 * p.slot) + 4) m] } }
    ∧ m.sourceNumber = f.sourceNumber ∧ m.length = BitVec.ofNat 32 p.offset
    ∧ m.commitIndex = o.counters.committed + 1 ∧ m.commitTime = x.now
    ∧ m.gauge.toNat = (match o.params.gate with
      | .none => e.gauge.toNat
      | .atOrAbove => e.gauge.toNat - level
      | .below => level - e.gauge.toNat)
    ∧ (m.flags.getLsbD 0 = e.check) ∧ (m.flags.getLsbD 1 = e.length)
    ∧ (m.flags.getLsbD 2 = f.truncated) ∧ (m.flags.getLsbD 3 = gap) ∧ (m.flags.getLsbD 4 = f.mark)
    ∧ (m.flags.getLsbD 5 = true ↔ o.params.gate ≠ .none) ∧ m.flags.toNat < 64
    ∧ (∀ last, (x.ctx f.stream).lastSource = some last →
      (gap = true ↔ (f.sourceNumber - last).toNat ≠ 1)
      ∧ missedBy = if (f.sourceNumber - last).toNat = 1 then 0 else f.sourceNumber - last - 1)
    ∧ ((x.ctx f.stream).lastSource = none → gap = false ∧ missedBy = 0))

/-- The bytes of a record of `size` bytes hold the fields listed, each (offset, bytes, value) with its value
least significant byte first, and 0 wherever no field lies (R185). -/
def LaidOut (bytes : List Byte) (size : Nat) (fields : List (Nat × Nat × Nat)) : Prop :=
  bytes.length = size
    ∧ (∀ f ∈ fields, ∀ i, i < f.2.1 → (bytes.getD (f.1 + i) 0).toNat = f.2.2 / 256 ^ i % 256)
    ∧ ∀ i, i < size → (∀ f ∈ fields, i < f.1 ∨ f.1 + f.2.1 ≤ i) → bytes.getD i 0 = 0

/-- The command belongs to the lane `k`'s link. -/
def onLink (k : Lane) (c : Instr) : Prop :=
  c = .idleSymbol k ∨ c = .startSymbol k ∨ c = .endSymbol k ∨ c = .abortSymbol k ∨ c = .codeViolation k
    ∨ ∃ b, c = .dataByte k b

/-! ### Laws -/

/-- R123: at most 16 writes and 4 reads are outstanding. -/
def PortLimits (s : State) : Prop := outstanding .write s ≤ 16 ∧ outstanding .read s ≤ 4

/-- R107: a staging buffer holds at most 4096 bytes in at most 64 chunks, and less than a chunk's bytes
have left its head chunk. -/
def Staging.fits (g : Staging) : Prop := g.headLeft + g.bytes.length ≤ 4096 ∧ g.headLeft < 64

/-- R107 for every lane. -/
def StagingFits (s : State) : Prop := ∀ k, (s.lr k).staging.fits

/-- R3: at most one non-IDLE stream is bound to any one (lane, tag) pair. -/
def BindingLaw (s : State) : Prop :=
  ∀ a b lane tag, holdsPair lane tag s a = true → holdsPair lane tag s b = true → a = b

/-- R30: no two queued jobs name the same stream. -/
def QueueLaw (s : State) : Prop := (s.walker.queue.map Job.stream).Nodup

/-- R120: the Report Writer's queue holds transactions of its own only. -/
def ReporterLaw (s : State) : Prop := ∀ t ∈ s.rw.queue, t.client = reporterClient

/-- R96 to R98: an IDLE run stays below 32 and a violation count below 4. -/
def Lock.inRange : Lock → Prop
  | .off => True
  | .hunting run => run < 32
  | .locked violations => violations < 4

/-- The lock ranges of every lane; and no frame is open without lock (R95, R98). -/
def LockLaw (s : State) : Prop :=
  ∀ k, (s.lr k).lock.inRange ∧ ((∀ v, (s.lr k).lock ≠ .locked v) → (s.lr k).frame = none)

/-- R171: bits 11 to 0 of the Board address are 0. -/
def BoardAligned (s : State) : Prop := s.board.toNat % 4096 = 0

/-- R182, R173: OFF holds no snapshot, and RUNNING, QUIESCING and QUIET hold one. -/
def SnapshotLaw (s : State) : Prop :=
  match s.dc.device with
  | .off => s.dc.snapshot = none
  | .loading l => l.origin = .off ↔ s.dc.snapshot = none
  | .running | .quiescing | .quiet => s.dc.snapshot ≠ none
  | .resetting | .broken => True

/-- A Lane Writer's frame of stream `st` is in flight and counted in no class yet (R90, R91). -/
def Writer.uncounted (st : StreamId) : Writer → Bool
  | .idle => false
  | .searching f _ _ _ => f.stream == st
  | .placing f _ => f.stream == st
  | .closing f _ => f.stream == st
  | .committing f _ _ _ => f.stream == st
  | .dropping d => d.countLost && !d.disowned && d.stream == st

/-- R91 for one order's counters: met is thinned + gated + lost + committed, and one more while a frame in
flight is not counted yet, as the 32-bit counters take it. -/
def Counters.balanced (c : Counters) (uncounted : Bool) : Prop :=
  c.met = c.thinned + c.gated + c.lost + c.committed + (if uncounted then 1 else 0)

/-- R91: held does not exceed lost in any current order. -/
def HeldLaw (s : State) : Prop :=
  ∀ st o, s.order? st = some o → o.counters.held.toNat ≤ o.counters.lost.toNat

/-- The device states in which R91 is claimed: after RESETTING or BROKEN is entered the frames abandoned
are counted in no class (R76). -/
abbrev State.counts (s : State) : Prop := s.dc.device ≠ .resetting ∧ s.dc.device ≠ .broken

/-- R90 and R91: a Lane Writer's frame is of a stream bound to its lane; one counted in no class yet is of
a CAPTURING or HALTING stream; and every current order's counters are balanced with it. -/
def FrameLaw (s : State) : Prop :=
  s.counts →
    (∀ k st, (s.lw k).stream? = some st → ∃ b p, b.lane = k ∧ s.standing st = .bound b p
      ∧ ((s.lw k).uncounted st = true → ∃ o, p = .capturing o ∨ p = .halting o))
    ∧ ∀ st b p o, s.standing st = .bound b p → s.order? st = some o →
        o.counters.balanced ((s.lw b.lane).uncounted st)

/-- The device is OFF, LOADING or QUIET, or so far through its drain that no frame can come (R180, R181). -/
def State.settled (s : State) : Prop :=
  s.dc.device = .off ∨ s.dc.device = .quiet ∨ (∃ l, s.dc.device = .loading l)
    ∨ (s.dc.device = .quiescing ∧ s.rw.drain ≠ .notBegun)

/-- R180, R181, R182: in OFF, LOADING and QUIET, and from the quiesce point on, every Lane Writer is IDLE; a
closing publication is made only past the quiesce point of QUIESCING (R147). -/
def QuietLaw (s : State) : Prop :=
  (s.settled → ∀ k, s.lw k = .idle)
    ∧ ∀ p, s.rw.publication = some p → p.closing = true →
        s.dc.device = .quiescing ∧ s.rw.drain ≠ .notBegun

/-- R138, R139: outside RESETTING and BROKEN, a stream with a device-half write queued or outstanding is
pending. -/
def HalfLaw (s : State) : Prop :=
  s.counts → ∀ st,
    ((∃ t ∈ s.rw.queue, t.deviceHalfStream? = some st)
      ∨ ∃ e ∈ s.port.table, e.txn.deviceHalfStream? = some st) → s.isPending st = true

/-- QUIESCING, QUIET, or LOADING from QUIET, the states in which no job is queued (R34, R180, R181). -/
def State.quieted (s : State) : Prop :=
  s.dc.device = .quiescing ∨ s.dc.device = .quiet ∨ ∃ l, s.dc.device = .loading l ∧ l.origin = .quiet

/-- R34, R147, R180, R181: no job is queued from QUIESCE on; none is in hand from the quiesce point on; and
from the drain's lane refresh on the pending set is empty. A closing publication is the drain's last step. -/
def DrainedLaw (s : State) : Prop :=
  HalfLaw s
    ∧ (s.quieted → s.walker.queue = []
      ∧ (s.dc.device ≠ .quiescing ∨ s.rw.drain ≠ .notBegun → s.walker.inHand = none)
      ∧ (s.dc.device ≠ .quiescing ∨ s.rw.drain = .laneRefresh ∨ s.rw.drain = .closing →
        ∀ st, s.isPending st = false))
    ∧ ∀ p, s.rw.publication = some p → p.closing = true → s.rw.drain = .closing

/-- Stream status writes that the Report Writer awaits: those of the initial publication before its Summary
is made, else those of the publication in progress (R142, R146). -/
def Reporter.statusAwaited (r : Reporter) : Nat :=
  match r.initial, r.publication with
  | .pending n made, _ => if made then 0 else n
  | .complete, some ⟨_, .status n, _⟩ => n
  | .complete, some ⟨_, .summary, _⟩ => 0
  | .complete, none => 0

/-- Summary writes that the Report Writer awaits (R142, R146). -/
def Reporter.summaryAwaited (r : Reporter) : Nat :=
  match r.initial, r.publication with
  | .pending _ made, _ => if made then 1 else 0
  | .complete, some ⟨_, .status _, _⟩ => 0
  | .complete, some ⟨_, .summary, _⟩ => 1
  | .complete, none => 0

/-- Outside RESETTING and BROKEN no transaction is queued or outstanding that nothing awaits. Outside RUNNING
and QUIESCING these are the Board header read of LOADING alone, with no job in hand (R34, R174, R181). In
RUNNING and QUIESCING a Lane Writer awaits those of its lane's frame (R56, R69), the job in hand its read (R36),
and the Report Writer its status and Summary writes (R142, R145, R146); the closing publication is made after
the lane refresh, and the drain's lane refresh after the initial publication (R147). -/
def LedgerLaw (s : State) : Prop :=
  s.counts →
    (¬ s.working → s.rw.queue = [] ∧ s.walker.inHand = none
      ∧ ∀ e ∈ s.port.table, e.txn.isHeaderRead = true)
    ∧ s.unended Txn.isHeaderRead ≤ (match s.dc.device with
      | .loading l => if l.issued then 1 else 0
      | _ => 0)
    ∧ (s.working →
      (∀ k, s.unended (Txn.ofLane k) ≤ (s.lw k).awaited)
      ∧ s.unended Txn.isJobRead ≤ (match s.walker.inHand with
        | some j => if j.stage.readIssued then 1 else 0
        | none => 0)
      ∧ s.unended Txn.isStreamStatus ≤ s.rw.statusAwaited
      ∧ s.unended Txn.isLaneStatus ≤ s.rw.laneUnanswered
      ∧ s.unended Txn.isSummary ≤ s.rw.summaryAwaited
      ∧ (∀ p, s.rw.publication = some p → p.closing = true → s.rw.laneUnanswered = 0)
      ∧ (s.dc.device = .quiescing → s.rw.drain = .laneRefresh ∨ s.rw.drain = .closing →
        s.rw.initial = .complete))

end Sys2Proof.Machine
end

