-- ==== Sys2Proof/Certificates/Slice0/Obligations.lean ====
section
/-! DEFINITION. The statements handed to the provers. -/

open Sys2Proof Sys2Proof.Machine

/-! ### The machine -/

/-- MODEL'S CHOICE, log entries 33 and 2: commands wait in a queue, and the one at its front is run on the
state with the queue's rest (33); every command answers a next state from every state, one whose conditions do
not hold too, which changes nothing (2). -/
def Obligations.StepRunsTheFrontCommand : Prop :=
  ∀ (c : Instr) (rest : List Instr) (s : State),
    step { s with pending := c :: rest } = exec c { s with pending := rest }
    ∧ ∃ t, exec c s = .next t

/-- MODEL'S CHOICE, log entries 1 and 7: with no command waiting a step is one microsecond. The time base
rises by one (R184) and each receiver that is not OFF and has not sampled its trigger line in this
microsecond samples it (R113). Where no line's sample differs from its held level, and outside RUNNING, nothing
else changes. In RUNNING a sample that differs is an edge to the line's level, taken for every stream bound to
the lane: it starts the ARMED EDGE orders whose sense matches and is counted in edges ignored of the CAPTURING
ones; every other stream stays (R78, R79, R80, R114). -/
def Obligations.IdleStepIsOneMicrosecond : Prop :=
  ∀ s : State, s.awake → s.pending = [] →
    let passed : State := { s with
      dc := { s.dc with timeBase := s.dc.timeBase + 1 }
      receivers := s.receivers.map fun r => { r with
        sampled := false
        heldLevel := if r.lock = .off ∨ r.sampled = true then r.heldLevel else some r.line } }
    let edge (k : Lane) (e : Edge) : Prop := (s.lr k).lock ≠ .off ∧ (s.lr k).sampled = false
      ∧ (s.lr k).heldLevel = some (decide (e = .fall)) ∧ (s.lr k).line = decide (e = .rise)
    (s.dc.device ≠ .running ∨ (∀ k e, ¬ edge k e) → step s = .next passed)
    ∧ (s.dc.device = .running → ∃ t, step s = .next t
      ∧ t = { passed with streams := t.streams, rw := { s.rw with pendingSet := t.rw.pendingSet } }
      ∧ ∀ st, t.ctx st = { s.ctx st with standing := t.standing st }
        ∧ ((∃ b o d e, s.standing st = .bound b (.armed o d) ∧ edge b.lane e ∧ o.params.start = .edge
              ∧ senseMatches o.params.sense e = true
              ∧ t.standing st = .bound b (.capturing o) ∧ t.isPending st = true)
          ∨ (∃ b o e, s.standing st = .bound b (.capturing o) ∧ edge b.lane e
              ∧ t.standing st = .bound b (.capturing { o with
                  counters := { o.counters with edgesIgnored := o.counters.edgesIgnored + 1 } })
              ∧ t.isPending st = s.isPending st)
          ∨ ((∀ b o d e, s.standing st = .bound b (.armed o d) → edge b.lane e →
                o.params.start = .edge → senseMatches o.params.sense e = false)
              ∧ (∀ b o e, s.standing st = .bound b (.capturing o) → ¬ edge b.lane e)
              ∧ t.standing st = s.standing st ∧ t.isPending st = s.isPending st)))

/-- POWER_ON_RESET puts every block at its reset values at once and holds it; RESET_INPUT_RELEASED lets it
work (R183). The trigger pins, the queue and the model's free-value counter stay. A part held in reset has
its interrupt output low (R183) and takes no command but the reset input's own (log entry 6); only a trigger
pin still moves (log entry 7). -/
def Obligations.ResetInputHoldsThePart : Prop :=
  ∀ s : State,
    exec .powerOnReset s = .next { State.reset with
      pending := s.pending, freeIndex := s.freeIndex
      dc := { State.reset.dc with resetAsserted := true }
      receivers := s.receivers.map fun r => { Receiver.reset with line := r.line } }
    ∧ exec .resetInputReleased s = .next { s with dc := { s.dc with resetAsserted := false } }
    ∧ (s.dc.resetAsserted = true →
      irqOutput s = false
      ∧ (∀ k e, exec (.triggerEdge k e) s
          = .next (s.setLr k { s.lr k with line := decide (e = .rise) }))
      ∧ ∀ c : Instr, c ≠ .powerOnReset → c ≠ .resetInputReleased → (∀ k e, c ≠ .triggerEdge k e) →
          exec c s = .next s)

/-- What the machine holds after reset: the values the spec gives (R2, R30, R56, R96, R107, R113, R116,
R123, R124, R126, R131, R136, R161, R183). -/
def Obligations.ResetStateHoldsTheSpecsValues : Prop :=
  State.reset.dc.device = .off ∧ State.reset.dc.snapshot = none
  ∧ State.reset.dc.boardLo = 0 ∧ State.reset.dc.boardHi = 0 ∧ State.reset.dc.seen = 0
  ∧ State.reset.dc.cause = 0 ∧ State.reset.dc.irqEnable = false ∧ State.reset.dc.result = .taken
  ∧ State.reset.dc.timeBase = 0
  ∧ (∀ st, State.reset.ctx st = ⟨.idle, 0, .noResult, none, 0, 0⟩)
  ∧ State.reset.walker.queue = [] ∧ State.reset.walker.inHand = none
  ∧ State.reset.walker.sweepDue = none
  ∧ (∀ k, (State.reset.lr k).lock = .off ∧ (State.reset.lr k).staging.bytes = []
      ∧ (State.reset.lr k).staging.chunksInUse = 0 ∧ (State.reset.lr k).heldLevel = none
      ∧ (State.reset.lr k).counters = ⟨0, 0, 0, 0, 0, 0, 0, 0, 0, 0⟩ ∧ State.reset.lw k = .idle)
  ∧ (∀ st, State.reset.isPending st = false) ∧ State.reset.rw.reportNumber = 0
  ∧ State.reset.rw.publication = none ∧ State.reset.rw.initial = .complete
  ∧ State.reset.rw.queue = [] ∧ State.reset.rw.laneUnanswered = 0 ∧ State.reset.rw.refreshDue = none
  ∧ State.reset.port.table = [] ∧ State.reset.port.position = none
  ∧ State.reset.port.urgentPointer = 0
  ∧ (∀ c : Client, State.reset.port.deficits[c.val] = 0 ∧ quantumBytes c State.reset = 4096
      ∧ ∀ d, State.reset.expired c d = 0)

/-- RESET_COMPLETE: RESETTING reaches OFF once the outstanding table is empty, and every block takes its
reset values but the Board address (R134, R182, R183). It waits otherwise. The pins and the issue point
(log entry 17) stay. -/
def Obligations.ResetCompleteReachesOff : Prop :=
  ∀ s : State, s.awake →
    (s.dc.device = .resetting → s.port.table = [] →
      exec .resetComplete s = .next { State.reset with
        pending := s.pending, freeIndex := s.freeIndex
        dc := { State.reset.dc with boardLo := s.dc.boardLo, boardHi := s.dc.boardHi }
        receivers := s.receivers.map fun r => { Receiver.reset with line := r.line }
        port := { State.reset.port with issuePoint := s.port.issuePoint } })
    ∧ (s.dc.device ≠ .resetting ∨ s.port.table ≠ [] → exec .resetComplete s = .next s)

/-! ### The Register Port -/

/-- What a read of each register returns, the four fields of STATE, the encodings of the device state and of
the command result, and the Board address, which BOARD_HI and BOARD_LO hold together (R167, R168, R171, 10.10). -/
def Obligations.RegisterReads : Prop :=
  ∀ s : State,
    s.board.toNat = s.dc.boardLo.toNat + 4294967296 * s.dc.boardHi.toNat ∧
    (∀ l, [DeviceState.off, .loading l, .running, .quiescing, .quiet, .resetting, .broken].map
      DeviceState.code = [0, 1, 2, 3, 4, 5, 6])
    ∧ [CommandResult.taken, .refused, .ignored, .badStream].map CommandResult.code = [0, 1, 2, 3]
    ∧ readRegister 0x00#5 s = 0x504A4C81#32 ∧ readRegister 0x04#5 s = 0
    ∧ readRegister 0x0C#5 s = s.dc.boardLo ∧ readRegister 0x10#5 s = s.dc.boardHi
    ∧ readRegister 0x14#5 s = 0 ∧ readRegister 0x18#5 s = s.dc.seen
    ∧ (readRegister 0x1C#5 s).toNat = s.dc.cause.toNat
    ∧ (s.port.table.length ≤ 20 →
        (readRegister 0x08#5 s).toNat % 8 = s.dc.device.code
        ∧ (readRegister 0x08#5 s).toNat / 16 % 4 = s.dc.result.code
        ∧ ((readRegister 0x08#5 s).getLsbD 8 = s.dc.irqEnable)
        ∧ (readRegister 0x08#5 s).toNat / 65536 = s.port.table.length)

/-- ENABLE is taken in OFF and QUIET, where LOADING begins with the load origin set; QUIESCE is taken in
RUNNING, where queued jobs are dropped and the sweep and lane refresh timers stop. In any other state they
are refused, changing only the last command result (R170, R174, R180). -/
def Obligations.EnableAndQuiesceByDeviceState : Prop :=
  ∀ s : State, s.awake →
    (s.dc.device = .off → exec .enable s = .next
      { s with dc := { s.dc with device := .loading ⟨.off, [], false⟩, result := .taken } })
    ∧ (s.dc.device = .quiet → exec .enable s = .next
      { s with dc := { s.dc with device := .loading ⟨.quiet, [], false⟩, result := .taken } })
    ∧ (s.dc.device ≠ .off → s.dc.device ≠ .quiet → exec .enable s = .next
      { s with dc := { s.dc with result := .refused } })
    ∧ (s.dc.device = .running → exec .quiesce s = .next { s with
      dc := { s.dc with device := .quiescing, result := .taken }
      walker := { s.walker with queue := [], sweepDue := none }
      rw := { s.rw with refreshDue := none, drain := .notBegun } })
    ∧ (s.dc.device ≠ .running → exec .quiesce s = .next
      { s with dc := { s.dc with result := .refused } })

/-- RESET is taken in every state. Outside RESETTING it enters RESETTING: the walker's work, the Report
Writer's queue, pending set, publication, lane refresh and timer, the staged bytes and every offered frame
are given up, each Lane Writer awaits what it has outstanding, and the contexts, the port and the report
number stay. In RESETTING it changes only the result. What a writer has outstanding is every entry of the
outstanding table that is made for its lane's frame (R30, R76, R119, R148, R170, R182; that RESET in OFF and
QUIET too reaches OFF by RESET_COMPLETE only is log entry 19, that a writer's count takes in the write of its
commit log entry 18). -/
def Obligations.ResetEntersResetting : Prop :=
  ∀ s : State, s.awake →
    (∀ k, laneOutstanding k s = s.port.table.countP fun e => e.txn.ofLane k) ∧
    (s.dc.device = .resetting →
      exec .reset s = .next { s with dc := { s.dc with result := .taken } })
    ∧ (s.dc.device ≠ .resetting → ∃ t, exec .reset s = .next t
      ∧ t.dc = { s.dc with device := .resetting, result := .taken }
      ∧ t.walker = ⟨[], none, none⟩
      ∧ t.rw = { s.rw with
          pendingSet := Vector.replicate 24 false, publication := none, queue := []
          laneUnanswered := 0, refreshDue := none }
      ∧ t.streams = s.streams ∧ t.port = s.port ∧ t.pending = s.pending ∧ t.freeIndex = s.freeIndex
      ∧ (∀ k, t.lr k = (s.lr k).givenUp)
      ∧ ∀ k, (s.lw k = .idle → t.lw k = .idle)
          ∧ (s.lw k ≠ .idle → laneOutstanding k s = 0 → t.lw k = .idle)
          ∧ (s.lw k ≠ .idle → laneOutstanding k s ≠ 0 → ∃ d, t.lw k = .dropping d
              ∧ d.outstanding = laneOutstanding k s ∧ d.countLost = false ∧ d.retirement = none))

/-- IRQ_ON and IRQ_OFF are taken in every state; NONE does nothing; an unknown CONTROL encoding is refused
and changes nothing else; a write that R167 leaves without effect changes nothing. BOARD_LO and BOARD_HI
are written in OFF and QUIET, the low 12 bits of BOARD_LO discarded; in any other state the write is refused
and the register keeps its value (R167, R169, R170, R171). -/
def Obligations.OtherRegisterWrites : Prop :=
  ∀ s : State, s.awake →
    exec .irqOn s = .next { s with dc := { s.dc with irqEnable := true, result := .taken } }
    ∧ exec .irqOff s = .next { s with dc := { s.dc with irqEnable := false, result := .taken } }
    ∧ exec .noCommand s = .next s
    ∧ (∀ v : Word, 6 ≤ v.toNat →
        exec (.unknownCommand v) s = .next { s with dc := { s.dc with result := .refused } })
    ∧ (∀ (offset : BitVec 5) (enables : BitVec 4) (v : Word),
        enables ≠ 0xF#4 ∨ offset.toNat % 4 ≠ 0 ∨ offset.toNat = 0 ∨ offset.toNat = 8 →
        exec (.registerWriteOther offset enables v) s = .next s)
    ∧ ∀ v : Word,
      (s.dc.device = .off ∨ s.dc.device = .quiet →
        (∃ w : Word, w.toNat = v.toNat - v.toNat % 4096 ∧ exec (.boardLoWrite v) s = .next
          { s with dc := { s.dc with boardLo := w, result := .taken } })
        ∧ exec (.boardHiWrite v) s = .next
          { s with dc := { s.dc with boardHi := v, result := .taken } })
      ∧ (s.dc.device ≠ .off → s.dc.device ≠ .quiet →
        exec (.boardLoWrite v) s = .next { s with dc := { s.dc with result := .refused } }
        ∧ exec (.boardHiWrite v) s = .next { s with dc := { s.dc with result := .refused } })

/-- A write to ATTEND: outside RUNNING ignored; in RUNNING a value of 24 or more is BAD_STREAM, and a stream
number is an attention request that adds an ANCHOR job at the tail, turns the stream's queued job into an
ANCHOR job in its place, or is absorbed by a queued ANCHOR job (R32, R172). -/
def Obligations.AttendWriteAddsAnAnchorJob : Prop :=
  ∀ (s : State) (v : Word), s.awake →
    (s.dc.device ≠ .running →
      exec (.attendWrite v) s = .next { s with dc := { s.dc with result := .ignored } })
    ∧ (s.dc.device = .running → 24 ≤ v.toNat →
      exec (.attendWrite v) s = .next { s with dc := { s.dc with result := .badStream } })
    ∧ (s.dc.device = .running → ∀ st : StreamId, v.toNat = st.val →
      ((∀ j ∈ s.walker.queue, j.stream ≠ st) →
        exec (.attendWrite v) s = .next { s with
          dc := { s.dc with result := .taken }
          walker := { s.walker with queue := s.walker.queue ++ [⟨st, .anchor⟩] } })
      ∧ ∀ before kind after, s.walker.queue = before ++ ⟨st, kind⟩ :: after →
          (∀ j ∈ before ++ after, j.stream ≠ st) →
          exec (.attendWrite v) s = .next { s with
            dc := { s.dc with result := .taken }
            walker := { s.walker with queue := before ++ ⟨st, .anchor⟩ :: after } })

/-- The interrupt output of a part not held in reset is asserted exactly while IRQ enable is on and the
report number differs from SEEN or CAUSE is nonzero (R149). A write to SEEN sets it to the value written,
whatever that is; a read returns it; it withdraws the output exactly when it equals the report number with
CAUSE 0 (R150). -/
def Obligations.InterruptOutputAndSeen : Prop :=
  ∀ (s : State) (v : Word), s.awake →
    (irqOutput s = true ↔
      s.dc.irqEnable = true ∧ (s.rw.reportNumber ≠ s.dc.seen ∨ s.dc.cause ≠ 0))
    ∧ ∃ t, exec (.seenWrite v) s = .next t
      ∧ t = { s with dc := { s.dc with seen := v } } ∧ readRegister 0x18#5 t = v
      ∧ (s.dc.irqEnable = true →
          (irqOutput t = false ↔ v = s.rw.reportNumber ∧ s.dc.cause = 0))

/-- A write to CAUSE clears each bit written 1, leaves the others and changes no device state; the interrupt
output follows the new value at once. A raise taken after it sets its bit, and SECOND if any bit was still
set; a write taken after a raise clears the bits it names (R162). -/
def Obligations.CauseWriteClearsItsBits : Prop :=
  ∀ (s : State) (v : Word), s.awake → ∃ c : BitVec 4,
    exec (.causeWrite v) s = .next { s with dc := { s.dc with cause := c } }
    ∧ (∀ i, i < 4 → c.getLsbD i = (s.dc.cause.getLsbD i && !v.getLsbD i))
    ∧ (irqOutput { s with dc := { s.dc with cause := c } } = true ↔
        s.dc.irqEnable = true ∧ (s.rw.reportNumber ≠ s.dc.seen ∨ c ≠ 0))
    ∧ (∀ bit : BitVec 4, raisedCause c bit = if c = 0 then bit else c ||| bit ||| 8#4)
    ∧ ∀ bit : BitVec 4, exec (.causeWrite v) (raiseCause bit s) = .next
        { s with dc := { s.dc with cause := raisedCause s.dc.cause bit &&& ~~~ v.setWidth 4 } }

/-- The last command result after each command (R169): the table for the register writes; REFUSED where a
load fails; TAKEN at the resets; unchanged by every other command. -/
def Obligations.CommandResultLaw : Prop :=
  ∀ (c : Instr) (s t : State), s.awake → c.wellFormed = true → exec c s = .next t →
    t.dc.result = (match c with
      | .enable => if s.dc.device = .off ∨ s.dc.device = .quiet then .taken else .refused
      | .quiesce => if s.dc.device = .running then .taken else .refused
      | .reset | .irqOn | .irqOff | .powerOnReset => .taken
      | .unknownCommand _ => .refused
      | .boardLoWrite _ | .boardHiWrite _ =>
        if s.dc.device = .off ∨ s.dc.device = .quiet then .taken else .refused
      | .attendWrite v =>
        if s.dc.device = .running then (if v.toNat < 24 then .taken else .badStream) else .ignored
      | .boardHeaderReadDone _ | .boardHeaderReadFault | .responseTimeout _ _ =>
        if (s.dc.device.code = 1 ∧ (t.dc.device = .off ∨ t.dc.device = .quiet)) then .refused
        else s.dc.result
      | .resetComplete => if s.dc.device = .resetting ∧ t.dc.device = .off then .taken else s.dc.result
      | _ => s.dc.result)

/-! ### Lane Receivers -/

/-- A HUNTING receiver: each IDLE raises its run by one and the 32nd locks it with violation count 0; any
other symbol sets the run to 0, a code violation being counted as well (R97). An OFF receiver takes no
symbol, and IDLE does nothing to a LOCKED one (R95). -/
def Obligations.HuntingReceiverLocksAt32Idles : Prop :=
  ∀ (s : State) (k : Lane), s.awake →
    (∀ run, (s.lr k).lock = .hunting run →
      exec (.idleSymbol k) s = .next (s.setLr k { s.lr k with
        lock := if run + 1 = 32 then .locked 0 else .hunting (run + 1) })
      ∧ (∀ c : Instr, (c = .startSymbol k ∨ c = .endSymbol k ∨ c = .abortSymbol k
            ∨ ∃ b, c = .dataByte k b) →
          exec c s = .next (s.setLr k { s.lr k with lock := .hunting 0 }))
      ∧ exec (.codeViolation k) s = .next (s.setLr k { s.lr k with
          lock := .hunting 0
          counters := { (s.lr k).counters with
            codeViolations := (s.lr k).counters.codeViolations + 1 } }))
    ∧ (∀ v, (s.lr k).lock = .locked v → exec (.idleSymbol k) s = .next s)
    ∧ ((s.lr k).lock = .off → ∀ c : Instr, onLink k c → exec c s = .next s)

/-- START, END, ABORT and a code violation at a LOCKED receiver, between frames and in a frame that is not
offered (R95, R98, R99, R102, R115). A discarded frame raises no counter in its body and CRC phases. Each
code violation is counted and ends the open frame; the fourth since lock or a good end loses lock. -/
def Obligations.SymbolsOutsideTheOfferedFrame : Prop :=
  ∀ (s : State) (k : Lane) (v : Nat), s.awake → (s.lr k).lock = .locked v →
    let r := s.lr k
    let fresh : Option OpenFrame := some (.header [] 0xFFFF#16)
    (r.frame = none →
      exec (.startSymbol k) s = .next (s.setLr k { r with frame := fresh })
      ∧ exec (.endSymbol k) s = .next s ∧ exec (.abortSymbol k) s = .next s)
    ∧ (∀ bytes crc, r.frame = some (.header bytes crc) →
      exec (.startSymbol k) s = .next (s.setLr k { r with
        frame := fresh, counters := { r.counters with badHeaders := r.counters.badHeaders + 1 } })
      ∧ exec (.endSymbol k) s = .next (s.setLr k { r with
        frame := none, counters := { r.counters with badHeaders := r.counters.badHeaders + 1 } })
      ∧ exec (.abortSymbol k) s = .next (s.setLr k { r with
        frame := none, counters := { r.counters with sourceAborts := r.counters.sourceAborts + 1 } }))
    ∧ (∀ a, r.frame = some (.body a) →
      exec (.endSymbol k) s = .next (s.setLr k { r with frame := some (.crc a none) }))
    ∧ (∀ a, r.frame = some (.body a) ∨ (∃ first, r.frame = some (.crc a first)) →
      (a.disposition = .discarded →
        exec (.startSymbol k) s = .next (s.setLr k { r with frame := fresh })
        ∧ exec (.abortSymbol k) s = .next (s.setLr k { r with frame := none }))
      ∧ (a.disposition = .followed →
        exec (.startSymbol k) s = .next (s.setLr k { r with
          frame := fresh, counters := { r.counters with lengthErrors := r.counters.lengthErrors + 1 } })
        ∧ exec (.abortSymbol k) s = .next (s.setLr k { r with
          frame := none
          counters := { r.counters with sourceAborts := r.counters.sourceAborts + 1 } })))
    ∧ (∀ a first, r.frame = some (.crc a first) → a.disposition = .followed →
        a.received = a.declared.toNat →
        exec (.endSymbol k) s = .next (s.setLr k { r with
          frame := none
          counters := { r.counters with checkFailures := r.counters.checkFailures + 1 } }))
    ∧ ((∀ a, r.frame = some (.body a) ∨ (∃ first, r.frame = some (.crc a first)) →
          ∀ g, a.disposition ≠ .offered g) →
      (v + 1 ≠ 4 → exec (.codeViolation k) s = .next (s.setLr k { r with
        lock := .locked (v + 1), frame := none
        counters := { r.counters with codeViolations := r.counters.codeViolations + 1 } }))
      ∧ (v + 1 = 4 → exec (.codeViolation k) s = .next (s.setLr k { r with
        lock := .hunting 0, frame := none
        counters := { r.counters with
          codeViolations := r.counters.codeViolations + 1
          lockLosses := r.counters.lockLosses + 1 } })))

/-- A lane loss: START, ABORT or a code violation inside the offered frame ends it. During the search the
frame is counted lost at once; after binding it is counted once the data writes issued have responded.
Staging is emptied, and the Lane Writer waits in DROPPING for what is outstanding; once it awaits nothing, a
HALTING stream has its order retired CUT. A loss that finds the writer IDLE or DROPPING is disregarded (R19,
R60, R62, R65, R90, R98, R102, R106). -/
def Obligations.LaneLossDropsTheOfferedFrame : Prop :=
  ∀ (s : State) (k : Lane) (v : Nat) (a : AcceptedFrame) (g : Gauging) (c : Instr) (after : Receiver),
    s.awake → s.working → (s.lr k).lock = .locked v →
    ((s.lr k).frame = some (.body a) ∨ ∃ first, (s.lr k).frame = some (.crc a first)) →
    a.disposition = .offered g →
    let r := s.lr k
    let n := r.counters
    (c = .startSymbol k ∧ after = { r with
        frame := some (.header [] 0xFFFF#16), staging := Staging.empty
        counters := { n with lengthErrors := n.lengthErrors + 1 } }
      ∨ c = .abortSymbol k ∧ after = { r with
        frame := none, staging := Staging.empty
        counters := { n with sourceAborts := n.sourceAborts + 1 } }
      ∨ c = .codeViolation k ∧ v + 1 ≠ 4 ∧ after = { r with
        frame := none, staging := Staging.empty, lock := .locked (v + 1)
        counters := { n with codeViolations := n.codeViolations + 1 } }
      ∨ c = .codeViolation k ∧ v + 1 = 4 ∧ after = { r with
        frame := none, staging := Staging.empty, lock := .hunting 0
        counters := { n with
          codeViolations := n.codeViolations + 1, lockLosses := n.lockLosses + 1 } }) →
    (s.lw k = .idle ∨ (∃ d, s.lw k = .dropping d) →
      exec c s = .next (s.setLr k { after with staging := r.staging }))
    ∧ ∀ (f : FlightFrame) (b : Binding) (halting : Bool) (o : CurrentOrder),
      s.standing f.stream = .bound b (.current halting o) → (halting = true → b.lane = k) →
      (∀ slot read, s.lw k = .searching f slot read false →
        exec c s = .next (((s.setLr k after).setLw k .idle).frameOver f.stream b halting o.oneLost))
      ∧ (∀ slot read, s.lw k = .searching f slot read true →
        exec c s = .next (((s.setLr k after).setStanding f.stream (.bound b (.current halting o.oneLost))).setLw
          k (.dropping ⟨f, none, 1, false, none, false⟩)))
      ∧ ∀ p, s.lw k = .placing f p ∨ s.lw k = .closing f p →
          (p.outstanding = 0 →
            exec c s = .next (((s.setLr k after).setLw k .idle).frameOver f.stream b halting o.oneLost))
          ∧ (p.outstanding ≠ 0 →
            exec c s = .next ((s.setLr k after).setLw k
              (.dropping ⟨f, some p.slot, p.outstanding, true, none, false⟩)))

/-- The fields eight header bytes carry (R100, 10.9), and a data byte in the header phase: the first seven
are kept; an eighth that completes a bad header closes the frame and is counted in any device state; an
accepted header is discarded and counted refused while the device is not RUNNING. A data byte between frames
is ignored (R95, R100, R104). -/
def Obligations.HeaderBytes : Prop :=
  (∀ b0 b1 b2 b3 b4 b5 b6 b7 : Byte, ∃ h, parseFrameHeader [b0, b1, b2, b3, b4, b5, b6, b7] = some h
    ∧ h.tag.val = b0.toNat % 4 ∧ h.mark = b0.getLsbD 2
    ∧ h.sourceNumber.toNat = b1.toNat + 256 * b2.toNat
    ∧ h.declared.toNat = b3.toNat + 256 * b4.toNat + 65536 * b5.toNat + 16777216 * b6.toNat
    ∧ (h.accepted = true ↔ b0.toNat < 8 ∧ b7 = 0 ∧ h.declared.toNat % 2 = 0
        ∧ 2 ≤ h.declared.toNat ∧ h.declared.toNat ≤ 4194304))
  ∧ ∀ (s : State) (k : Lane) (v : Nat) (b : Byte), s.awake → (s.lr k).lock = .locked v →
    let r := s.lr k
    (r.frame = none → exec (.dataByte k b) s = .next s)
    ∧ ∀ bytes crc, r.frame = some (.header bytes crc) →
      (bytes.length < 7 → exec (.dataByte k b) s = .next (s.setLr k { r with
        frame := some (.header (bytes ++ [b]) (crcByte crc b)) }))
      ∧ ∀ h, parseFrameHeader (bytes ++ [b]) = some h →
        (h.accepted = false → exec (.dataByte k b) s = .next (s.setLr k { r with
          frame := none, counters := { r.counters with badHeaders := r.counters.badHeaders + 1 } }))
        ∧ (h.accepted = true → s.dc.device ≠ .running →
          exec (.dataByte k b) s = .next (s.setLr k { r with
            frame := some (.body ⟨h.tag, h.mark, h.sourceNumber, h.declared, .discarded, 0,
              crcByte crc b⟩)
            counters := { r.counters with refused := r.counters.refused + 1 } }))

/-- A frame start in RUNNING, classed by the stream that holds the pair (R24, R25, R57, R82, R85, R104,
R105, R115): unbound, unclaimed, passed over, or met; a met frame is thinned, offered to an IDLE Lane
Writer, or lost to a busy one. -/
def Obligations.FrameStartIsClassed : Prop :=
  ∀ (s : State) (k : Lane) (v : Nat) (b : Byte) (bytes : List Byte) (crc : Half) (h : FrameHeader),
    s.awake → s.dc.device = .running → (s.lr k).lock = .locked v →
    (s.lr k).frame = some (.header bytes crc) → parseFrameHeader (bytes ++ [b]) = some h →
    h.accepted = true →
    let r := s.lr k
    let n := r.counters
    let frame (d : Disposition) : Option OpenFrame := some (.body
      ⟨h.tag, h.mark, h.sourceNumber, h.declared, d, 0, crcByte crc b⟩)
    let started (d : Disposition) : Receiver := { r with
      frame := frame d, counters := { n with framesStarted := n.framesStarted + 1 } }
    ((∀ st, holdsPair k h.tag s st = false) →
      exec (.dataByte k b) s = .next (s.setLr k { r with
        frame := frame .followed
        counters := { n with framesStarted := n.framesStarted + 1, unbound := n.unbound + 1 } }))
    ∧ ∀ (st : StreamId) (bd : Binding) (p : Phase), s.standing st = .bound bd p →
      bd.lane = k → bd.tag = h.tag → (∀ x, holdsPair k h.tag s x = true → x = st) →
      ((∀ o d, p ≠ .armed o d) → (∀ o, p ≠ .capturing o) →
        exec (.dataByte k b) s = .next ((s.setLr k (started .followed)).setCtx st
          { s.ctx st with unclaimed := (s.ctx st).unclaimed + 1 }))
      ∧ (∀ o d, p = .armed o d → (o.params.start ≠ .mark ∨ h.mark = false) →
        exec (.dataByte k b) s = .next ((s.setLr k (started .followed)).setStanding st
          (.bound bd (.armed { o with
            counters := { o.counters with passedOver := o.counters.passedOver + 1 } } d))))
      ∧ (∀ o, (p = .capturing o ∨ ∃ d, p = .armed o d ∧ o.params.start = .mark ∧ h.mark = true) →
        let met : CurrentOrder := { o with
          counters := { o.counters with met := o.counters.met + 1 }
          thinPhase := (o.thinPhase + 1) % o.params.thin }
        let s' : State := if p = .capturing o then s
          else { s with rw := { s.rw with pendingSet := s.rw.pendingSet.set st.val true } }
        (o.thinPhase ≠ 0 →
          exec (.dataByte k b) s = .next ((s'.setLr k (started .followed)).setStanding st
            (.bound bd (.capturing { met with
              counters := { met.counters with thinned := o.counters.thinned + 1 } }))))
        ∧ (o.thinPhase = 0 → s.lw k = .idle →
          exec (.dataByte k b) s = .next (((s'.setLr k (started (.offered ⟨0, none, true⟩))).setStanding
            st (.bound bd (.capturing met))).setLw k
            (.searching ⟨st, h.sourceNumber, h.mark, none, false, false, false⟩ o.cursor 0 false)))
        ∧ (o.thinPhase = 0 → s.lw k ≠ .idle →
          exec (.dataByte k b) s = .next ((s'.setLr k (started .followed)).setStanding st
            (.bound bd (.capturing { met with
              counters := { met.counters with lost := o.counters.lost + 1 } })))))

/-- A payload byte: taken and thrown away for a frame not offered; taken with the gauge moved for an offered
frame no longer staged, whatever its Lane Writer does; staged with the gauge moved for the offered frame while
its Lane Writer searches and there is room; and, with staging full, the frame lost to OVERFLOW and counted,
on which a HALTING stream whose writer awaits nothing has its order retired CUT (R19, R60, R62, R105, R106,
R108, R111). -/
def Obligations.PayloadBytes : Prop :=
  ∀ (s : State) (k : Lane) (v : Nat) (b : Byte) (a : AcceptedFrame), s.awake →
    (s.lr k).lock = .locked v → (s.lr k).frame = some (.body a) →
    let r := s.lr k
    let next : AcceptedFrame := { a with received := a.received + 1, crc := crcByte a.crc b }
    (a.disposition = .discarded ∨ a.disposition = .followed →
      exec (.dataByte k b) s = .next (s.setLr k { r with frame := some (.body next) }))
    ∧ ∀ g n c, a.disposition = .offered g → s.dc.snapshot = some n → n.lanes[k.val] = c →
      let heard : Gauging := gaugeByte c.gauge c.overLevel g b
      (g.staging = false → exec (.dataByte k b) s = .next (s.setLr k { r with
        frame := some (.body { next with disposition := .offered heard }) }))
      ∧ ∀ f slot read issued, s.lw k = .searching f slot read issued →
      (g.staging = true → r.staging.headLeft + r.staging.bytes.length < 4096 →
        exec (.dataByte k b) s = .next (s.setLr k { r with
          frame := some (.body { next with disposition := .offered heard })
          staging := { r.staging with bytes := r.staging.bytes ++ [b] } }))
      ∧ (g.staging = true → r.staging.headLeft + r.staging.bytes.length = 4096 →
        ∀ bd halting o, s.standing f.stream = .bound bd (.current halting o) →
        (halting = true → bd.lane = k ∧ s.working) →
        let x : State := s.setLr k { r with
          frame := some (.body { next with disposition := .followed })
          staging := Staging.empty
          counters := { r.counters with overflows := r.counters.overflows + 1 } }
        exec (.dataByte k b) s = .next (
          if issued then (x.setStanding f.stream (.bound bd (.current halting o.oneLost))).setLw k
            (.dropping ⟨f, none, 1, false, none, false⟩)
          else (x.setLw k .idle).frameOver f.stream bd halting o.oneLost))

/-- The CRC phase: the first byte is kept; at the second, or at an END, the frame is checked and closes. A
good end clears the violation count whatever the frame and the device state; counters rise for a dispatched
frame; a searching writer's offered frame is reported ended with its gauge and flags, or lost under DROP_BAD,
on which a HALTING stream whose writer awaits nothing has its order retired CUT; a report that finds the
writer IDLE or DROPPING is disregarded (R19, R60, R62, R98, R101, R102, R103, R106, R117). -/
def Obligations.FrameChecksAtTheEnd : Prop :=
  ∀ (s : State) (k : Lane) (v : Nat) (a : AcceptedFrame), s.awake → (s.lr k).lock = .locked v →
    let r := s.lr k
    let n := r.counters
    (∀ b, r.frame = some (.crc a none) →
      exec (.dataByte k b) s = .next (s.setLr k { r with frame := some (.crc a (some b)) }))
    ∧ ∀ (c : Instr) (check : Bool),
      ((∃ low high, r.frame = some (.crc a (some low)) ∧ c = .dataByte k high
          ∧ check = decide (a.crc.toNat ≠ low.toNat + 256 * high.toNat))
        ∨ ((∃ first, r.frame = some (.crc a first)) ∧ c = .endSymbol k ∧ check = true)) →
      let length := decide (a.received ≠ a.declared.toNat)
      let closed : Receiver := { r with
        frame := none, lock := if check = false ∧ length = false then .locked 0 else .locked v }
      let counted : Receiver := { closed with counters := { n with
        checkFailures := if check then n.checkFailures + 1 else n.checkFailures
        lengthErrors := if length then n.lengthErrors + 1 else n.lengthErrors } }
      (a.disposition = .discarded → exec c s = .next (s.setLr k closed))
      ∧ (a.disposition = .followed → exec c s = .next (s.setLr k counted))
      ∧ (∀ g, a.disposition = .offered g → s.lw k = .idle ∨ (∃ d, s.lw k = .dropping d) →
        exec c s = .next (s.setLr k counted))
      ∧ ∀ g sn f slot read issued, a.disposition = .offered g → s.dc.snapshot = some sn →
        s.lw k = .searching f slot read issued →
        ((check = false ∧ length = false) ∨ sn.lanes[k.val].policy = .keepBad →
          exec c s = .next ((s.setLr k counted).setLw k
            (.searching { f with ended := some ⟨g.gauge, check, length⟩ } slot read issued)))
        ∧ ((check = true ∨ length = true) → sn.lanes[k.val].policy = .dropBad →
          ∀ bd halting o, s.standing f.stream = .bound bd (.current halting o) →
          (halting = true → bd.lane = k ∧ s.working) →
          let x : State := s.setLr k { counted with staging := Staging.empty }
          exec c s = .next (
            if issued then (x.setStanding f.stream (.bound bd (.current halting o.oneLost))).setLw k
              (.dropping ⟨f, none, 1, false, none, false⟩)
            else (x.setLw k .idle).frameOver f.stream bd halting o.oneLost))

/-- The offered frame once its Lane Writer is bound (`writer x` is that writer, PLACING or CLOSING, holding
the frame `x`). A payload byte is staged, or, past the page end, passed and marks the frame TRUNCATED, or,
with no room, loses the frame to OVERFLOW, counted when the data writes issued have responded. The checks at
its end report END, on which a PLACING writer with nothing left to issue closes and a frame-end decision
that is due is taken; or, under DROP_BAD with a failure, its loss. A HALTING stream whose writer awaits
nothing then has its order retired CUT (R19, R63, R64, R65, R66, R103, R106, R108, R109; that a byte past the
page end too needs room is log entry 15, that it is judged by the bytes issued and staged log entry 16). -/
def Obligations.BoundFramePayloadAndEnd : Prop :=
  ∀ (s : State) (k : Lane) (v : Nat) (a : AcceptedFrame) (g : Gauging) (n : Snapshot) (f : FlightFrame)
    (p : Placement) (closing : Bool) (bd : Binding) (halting : Bool) (o : CurrentOrder), s.awake →
    s.working → (s.lr k).lock = .locked v → a.disposition = .offered g → s.dc.snapshot = some n →
    s.standing f.stream = .bound bd (.current halting o) → (halting = true → bd.lane = k) →
    let writer (x : FlightFrame) : Writer := if closing then .closing x p else .placing x p
    s.lw k = writer f →
    let r := s.lr k
    let staged := r.staging.bytes
    let size := 256 * 2 ^ o.params.sizeCode
    let lost (after : Receiver) : State :=
      let x : State := s.setLr k { after with staging := Staging.empty }
      if p.outstanding = 0 then (x.setLw k .idle).frameOver f.stream bd halting o.oneLost
      else x.setLw k (.dropping ⟨f, some p.slot, p.outstanding, true, none, false⟩)
    (∀ b, r.frame = some (.body a) →
      let heard := gaugeByte n.lanes[k.val].gauge n.lanes[k.val].overLevel g b
      let taken (d : Disposition) : Receiver := { r with frame := some (.body { a with
        received := a.received + 1, crc := crcByte a.crc b, disposition := d }) }
      (g.staging = false → exec (.dataByte k b) s = .next (s.setLr k (taken (.offered heard))))
      ∧ (g.staging = true → r.staging.headLeft + staged.length < 4096 →
        (p.offset + staged.length < size → exec (.dataByte k b) s = .next (s.setLr k
          { taken (.offered heard) with staging := { r.staging with bytes := staged ++ [b] } }))
        ∧ (size ≤ p.offset + staged.length → exec (.dataByte k b) s = .next
          ((s.setLr k (taken (.offered heard))).setLw k (writer { f with truncated := true }))))
      ∧ (g.staging = true → r.staging.headLeft + staged.length = 4096 →
        exec (.dataByte k b) s = .next (lost { taken .followed with counters := { r.counters with
          overflows := r.counters.overflows + 1 } })))
    ∧ ∀ (first : Option Byte) (c : Instr) (check : Bool), r.frame = some (.crc a first) →
      ((∃ low high, first = some low ∧ c = .dataByte k high
          ∧ check = decide (a.crc.toNat ≠ low.toNat + 256 * high.toNat))
        ∨ (c = .endSymbol k ∧ check = true)) →
      let length := decide (a.received ≠ a.declared.toNat)
      let closed : Receiver := { r with
        frame := none, lock := if check = false ∧ length = false then .locked 0 else .locked v
        counters := { r.counters with
          checkFailures := if check then r.counters.checkFailures + 1 else r.counters.checkFailures
          lengthErrors := if length then r.counters.lengthErrors + 1 else r.counters.lengthErrors } }
      let ended : FlightFrame := { f with ended := some ⟨g.gauge, check, length⟩ }
      ((check = false ∧ length = false) ∨ n.lanes[k.val].policy = .keepBad →
        ((closing = true ∨ p.offset = size ∨ staged = []) → exec c s = .next
          (frameDecision k ((s.setLr k closed).setLw k (.closing ended p))))
        ∧ (closing = false → p.offset ≠ size → staged ≠ [] → exec c s = .next
          ((s.setLr k closed).setLw k (.placing ended p))))
      ∧ ((check = true ∨ length = true) → n.lanes[k.val].policy = .dropBad →
        exec c s = .next (lost closed))

/-- TRIGGER_EDGE: the line has its new level. A receiver that has not sampled it in this microsecond holds
that level, and in RUNNING the edge is taken once for every stream bound to the lane: it starts the ARMED EDGE
orders whose sense matches and is counted in edges ignored of the CAPTURING ones; all else stays. A receiver
that is OFF or has sampled takes no sample, and the first sample after OFF makes no edge. RISE (1) matches a
rise, FALL (2) a fall and EITHER (3) both (R78, R79, R80, R113, R114; that TRIGGER_EDGE moves the line and that
the microsecond's one sample is taken in the same step is the model's choice, log entry 7). -/
def Obligations.TriggerEdgeIsTakenForEveryStreamOfTheLane : Prop :=
  (∀ (sense : Byte) (e : Edge), senseMatches sense e = true ↔
    sense.toNat = 3 ∨ (sense.toNat = 1 ∧ e = .rise) ∨ (sense.toNat = 2 ∧ e = .fall))
  ∧ (∀ (s : State) (k : Lane) (e : Edge), s.awake → (s.lr k).lock = .off ∨ (s.lr k).sampled = true →
    exec (.triggerEdge k e) s = .next (s.setLr k { s.lr k with line := decide (e = .rise) }))
  ∧ (∀ (s : State) (k : Lane) (e : Edge), s.awake → (s.lr k).lock ≠ .off → (s.lr k).sampled = false →
    (s.lr k).heldLevel = none ∨ (s.lr k).heldLevel = some (decide (e = .rise)) →
    exec (.triggerEdge k e) s = .next (s.setLr k { s.lr k with
      line := decide (e = .rise), heldLevel := some (decide (e = .rise)), sampled := true }))
  ∧ ∀ (s : State) (k : Lane) (e : Edge), s.awake → (s.lr k).lock ≠ .off → (s.lr k).sampled = false →
    (s.lr k).heldLevel = some (decide (e = .fall)) →
    let r : Receiver := { s.lr k with
      line := decide (e = .rise), heldLevel := some (decide (e = .rise)), sampled := true }
    (s.dc.device ≠ .running → exec (.triggerEdge k e) s = .next (s.setLr k r))
    ∧ (s.dc.device = .running → ∃ t, exec (.triggerEdge k e) s = .next t
      ∧ t = { s.setLr k r with
          streams := t.streams, rw := { s.rw with pendingSet := t.rw.pendingSet } }
      ∧ ∀ st, t.ctx st = { s.ctx st with standing := t.standing st }
        ∧ ((∃ b o d, s.standing st = .bound b (.armed o d) ∧ b.lane = k ∧ o.params.start = .edge
              ∧ senseMatches o.params.sense e = true
              ∧ t.standing st = .bound b (.capturing o) ∧ t.isPending st = true)
          ∨ (∃ b o, s.standing st = .bound b (.capturing o) ∧ b.lane = k
              ∧ t.standing st = .bound b (.capturing { o with
                  counters := { o.counters with edgesIgnored := o.counters.edgesIgnored + 1 } })
              ∧ t.isPending st = s.isPending st)
          ∨ ((∀ b o d, s.standing st = .bound b (.armed o d) → b.lane = k →
                o.params.start = .edge → senseMatches o.params.sense e = false)
              ∧ (∀ b o, s.standing st = .bound b (.capturing o) → b.lane ≠ k)
              ∧ t.standing st = s.standing st ∧ t.isPending st = s.isPending st)))

/-- The frame CRC taken bit by bit from each byte's most significant bit, with the check value of R101; and
the gauge: the low byte of a sample waits for its high byte, SUM and OVER are held at 4,294,967,295, PEAK
keeps the largest sample (R101, R111, R112). -/
def Obligations.CrcAndGauge : Prop :=
  (∀ (bytes : List Byte) (r : Half), bytes.foldl crcByte r =
    (bytes.flatMap fun b => (List.range 8).map fun i => b.getLsbD (7 - i)).foldl
      (fun (r : Half) bit => if xor r.msb bit then (r <<< 1) ^^^ 0x1021#16 else r <<< 1) r)
  ∧ [0x31#8, 0x32#8, 0x33#8, 0x34#8, 0x35#8, 0x36#8, 0x37#8, 0x38#8, 0x39#8].foldl crcByte 0xFFFF#16
      = 0x29B1#16
  ∧ ∀ (kind : GaugeKind) (level : Half) (g : Gauging) (low high : Byte), g.low = none →
      let sample := low.toNat + 256 * high.toNat
      let g' := gaugeByte kind level (gaugeByte kind level g low) high
      g'.low = none ∧ g'.staging = g.staging ∧ g'.gauge.toNat = (match kind with
        | .sum => min (g.gauge.toNat + sample) 4294967295
        | .peak => max g.gauge.toNat sample
        | .over => if level.toNat < sample then min (g.gauge.toNat + 1) 4294967295
            else g.gauge.toNat)

/-! ### Timers -/

/-- ARM_DEADLINE_EXPIRY: in RUNNING, once the time base has reached an ARMED stream's deadline, its order is
retired NO_TRIGGER with reason ARM_LIMIT and the stream is FETCHING with the order's link step; before
then, and for a stream with no deadline, nothing happens (R8, R83). MODEL'S CHOICE, log entry 9: a time is
reached when the time base, which wraps, is at it or less than 2^63 microseconds past it. -/
def Obligations.ArmDeadlineExpiryRetiresNoTrigger : Prop :=
  (∀ now due : Time, reached now due = true ↔ (now.toNat + 2 ^ 64 - due.toNat) % 2 ^ 64 < 2 ^ 63)
  ∧ ∀ (s : State) (st : StreamId), s.awake →
    (∀ b o due, s.standing st = .bound b (.armed o (some due)) → s.dc.device = .running →
      reached s.now due = true →
      exec (.armDeadlineExpiry st) s = .next { s.setStanding st
          (.bound b (.fetching (.link o.address false))) with
        rw := { s.rw with
          pendingSet := s.rw.pendingSet.set st.val true
          queue := s.rw.queue ++ [.deviceHalfWrite st false o.address
            ⟨.noTrigger, .armLimit, o.counters, o.acceptTime, s.now⟩] } })
    ∧ ((∀ b o due, s.standing st = .bound b (.armed o (some due)) →
          s.dc.device ≠ .running ∨ reached s.now due = false) →
        exec (.armDeadlineExpiry st) s = .next s)

/-- SWEEP_EXPIRY and LANE_REFRESH_EXPIRY: at the end of a period the next starts; the sweep leaves every
stream with an ANCHOR job, those added joining the tail in stream order; a lane refresh makes its 12 writes
in lane order unless one is in progress (R33, R145; that the next period runs from the end of the last is
log entry 10, when a time is reached log entry 9). -/
def Obligations.PeriodicTimers : Prop :=
  ∀ (s : State) (n : Snapshot) (due : Time), s.awake → s.dc.snapshot = some n →
    s.dc.device = .running → reached s.now due = true →
    (s.walker.sweepDue = some due → n.sweepInterval ≠ 0 →
      exec .sweepExpiry s = .next { s with walker := { s.walker with
        sweepDue := some (due + BitVec.ofNat 64 (100 * n.sweepInterval.toNat))
        queue := ((s.walker.queue.map Job.stream) ++ (allStreams.filter fun st =>
          !(s.walker.queue.map Job.stream).contains st)).map fun st => ⟨st, .anchor⟩ } })
    ∧ (s.rw.refreshDue = some due →
      let next := due + BitVec.ofNat 64 (1000 * n.refreshInterval.toNat)
      (s.rw.laneUnanswered ≠ 0 →
        exec .laneRefreshExpiry s = .next { s with rw := { s.rw with refreshDue := some next } })
      ∧ (s.rw.laneUnanswered = 0 →
        exec .laneRefreshExpiry s = .next { s with rw := { s.rw with
          refreshDue := some next, laneUnanswered := 12
          queue := s.rw.queue ++ allLanes.map fun k => .laneStatusWrite
            (s.board + BitVec.ofNat 64 (0xA00 + 32 * k.val))
            ⟨(s.lr k).lock, (s.lr k).counters, s.now⟩ } }))

/-- RESPONSE_TIMEOUT: once its timer has run out, the oldest transaction of the client and direction leaves
the table, the expired count of that client and direction rises by one, no other count moves, and the
client is handed the same port fault that an error response hands it (R129, R130, R131, R132; when a time is
reached is log entry 9). The count that a timeout leaves where it stood at 255 is a free value (log entry 8);
all else is the same there. -/
def Obligations.ResponseTimeoutIsAPortFault : Prop :=
  (∀ (s : State) (t : Txn), Answers s t → exec t.faultRow s = .next (portFault t (s.ended t)))
  ∧ ∀ (s : State) (c : Client) (d : Direction) (e : Entry), s.awake → oldest c d s = some e →
    (reached s.now e.timeout = false → exec (.responseTimeout c d) s = .next s)
    ∧ (reached s.now e.timeout = true → ∃ u,
      exec (.responseTimeout c d) s = .next (portFault e.txn u)
      ∧ u = { s with
          freeIndex := u.freeIndex
          port := { s.port with
            table := u.port.table, expiredReads := u.port.expiredReads
            expiredWrites := u.port.expiredWrites } }
      ∧ TableLess s.port.table u.port.table c d e
      ∧ ((s.expired c d).toNat < 255 →
          (u.expired c d).toNat = (s.expired c d).toNat + 1 ∧ u.freeIndex = s.freeIndex)
      ∧ ∀ c' d', (c' ≠ c ∨ d' ≠ d) → u.expired c' d' = s.expired c' d')

/-! ### The Memory Port -/

/-- GRANT: with the issue point free and some client's request eligible, one eligible request is issued: it
is placed at the issue point and enters the table as the youngest entry, its response timer running from
now. The premises on quanta and sizes are those of R126 and R63. With the issue point occupied, or nothing
eligible, nothing is issued. A request is eligible while fewer than 4 reads or 16 writes are outstanding, its
expired count is below 255 and the device state allows grants; the quanta and the response timeout are those
of the snapshot in force (R123, R124, R125, R126, R130, R131, R133). -/
def Obligations.GrantIssuesAnEligibleRequest : Prop :=
  ∀ s : State, s.awake →
    (s.port.issuePoint = none → (∀ c, 64 ≤ quantumBytes c s) →
      (∀ c t, eligible c s = some t → t.size ≤ 256) → (∃ c t, eligible c s = some t) →
      ∃ c t u, exec .grant s = .next u ∧ eligible c s = some t
        ∧ u.port.issuePoint = some t
        ∧ u.port.table = s.port.table ++ [⟨t, s.now + BitVec.ofNat 64 (timeoutOf t s)⟩]
        ∧ u.port.expiredReads = s.port.expiredReads ∧ u.port.expiredWrites = s.port.expiredWrites
        ∧ (t.client = reporterClient → u.rw = { s.rw with queue := s.rw.queue.tail }))
    ∧ (s.port.issuePoint.isSome = true → exec .grant s = .next s)
    ∧ (s.port.issuePoint = none → (∀ c, eligible c s = none) → exec .grant s = .next s)
    ∧ (∀ c t, eligible c s = some t ↔ request c s = some t
      ∧ (s.dc.device = .off ∨ (∃ l, s.dc.device = .loading l) ∨ s.dc.device = .running
        ∨ s.dc.device = .quiescing ∨ s.dc.device = .quiet)
      ∧ (t.direction = .read → (s.port.table.filter fun e => e.txn.direction = .read).length < 4)
      ∧ (t.direction = .write → (s.port.table.filter fun e => e.txn.direction = .write).length < 16)
      ∧ (s.expired c t.direction).toNat < 255)
    ∧ (s.dc.snapshot = none → ∀ c, quantumBytes c s = 4096)
    ∧ (∀ n, s.dc.snapshot = some n → (∀ k, quantumBytes (laneClient k) s = 64 * n.lanes[k.val].quantum)
      ∧ quantumBytes walkerClient s = 64 * n.walkerQuantum
      ∧ quantumBytes reporterClient s = 64 * n.reporterQuantum
      ∧ ∀ t, (∀ a, t ≠ .headerRead a) → timeoutOf t s = n.responseTimeout.toNat)
    ∧ ∀ a, timeoutOf (.headerRead a) s = 65535

/-- The arbiter's two stages. While some urgent lane's writer has an eligible request, GRANT issues one of
such a lane, the first from the urgent pointer on, moves the pointer past it, and leaves the deficits and
the round-robin position (R124). Otherwise a visit in progress goes on while its client's request fits its
deficit; and when it ends, the clients after it are arrived at in ring order, each with an eligible request
gaining its quantum and each other falling to 0, until one's request fits (R125; stated for a grant reached
within one round). -/
def Obligations.GrantServesUrgentLanesThenRoundRobin : Prop :=
  ∀ s : State, s.awake → s.port.issuePoint = none →
    let due (t : Txn) : Entry := ⟨t, s.now + BitVec.ofNat 64 (timeoutOf t s)⟩
    (∀ (i : Nat) (k : Lane) (t : Txn),
      i < 12 → k.val = (s.port.urgentPointer.val + i) % 12 →
      3072 ≤ (s.lr k).staging.bytes.length → eligible (laneClient k) s = some t →
      (∀ (j : Nat) (x : Lane), j < i → x.val = (s.port.urgentPointer.val + j) % 12 →
        (s.lr x).staging.bytes.length < 3072 ∨ eligible (laneClient x) s = none) →
      ∃ u, exec .grant s = .next u ∧ u.port = { s.port with
        issuePoint := some t, table := s.port.table ++ [due t], urgentPointer := u.port.urgentPointer }
        ∧ u.port.urgentPointer.val = (k.val + 1) % 12)
    ∧ ((∀ k, (s.lr k).staging.bytes.length < 3072 ∨ eligible (laneClient k) s = none) →
      (∀ c t, s.port.position = some c → eligible c s = some t → t.size ≤ s.port.deficits[c.val] →
        ∃ u, exec .grant s = .next u ∧ u.port = { s.port with
          issuePoint := some t, table := s.port.table ++ [due t]
          deficits := s.port.deficits.set c.val (s.port.deficits[c.val] - t.size) })
      ∧ ∀ (first i : Nat) (c : Client) (t : Txn),
        (s.port.position = none → first = 0) → (∀ x, s.port.position = some x → first = x.val + 1) →
        (∀ x y, s.port.position = some x → eligible x s = some y → s.port.deficits[x.val] < y.size) →
        i < 14 → c.val = (first + i) % 14 → eligible c s = some t →
        t.size ≤ s.port.deficits[c.val] + quantumBytes c s →
        (∀ (j : Nat) (x : Client) (y : Txn), j < i → x.val = (first + j) % 14 →
          eligible x s = some y → s.port.deficits[x.val] + quantumBytes x s < y.size) →
        ∃ u, exec .grant s = .next u ∧ u.port = { s.port with
            issuePoint := some t, table := s.port.table ++ [due t], position := some c
            deficits := u.port.deficits }
          ∧ ∀ x : Client, (x = c → u.port.deficits[x.val]
                = s.port.deficits[x.val] + quantumBytes x s - t.size)
            ∧ (x ≠ c → (∃ j, j < i ∧ x.val = (first + j) % 14) → u.port.deficits[x.val]
                = if eligible x s = none then 0 else s.port.deficits[x.val] + quantumBytes x s)
            ∧ (x ≠ c → (∀ j, j < i → x.val ≠ (first + j) % 14) → u.port.deficits[x.val]
                = if s.port.position = some x ∧ eligible x s = none then 0 else s.port.deficits[x.val]))

/-- What a Lane Writer and the Report Writer present: a SEARCHING writer its next slot's read, a PLACING one
the data write R63 forms from the staged bytes, the Report Writer the head of its queue. What GRANT leaves at
the client whose request it issued: the slot read, walker read or header read of that client counts as issued;
a data write carries the next staged bytes, as many as R63 allows, which leave staging, move the write offset
and join the outstanding writes, and the last of them closes the placing; a write of the Report Writer
leaves its queue. Nothing else changes but the port (R58, R63, R109, R120). -/
def Obligations.AnIssuedRequestLeavesItsClient : Prop :=
  (∀ (s : State), request reporterClient s = s.rw.queue.head?
    ∧ ∀ k, (∀ f slot read o, s.lw k = .searching f slot read false → s.order? f.stream = some o →
        request (laneClient k) s = some (.slotRead k (o.params.slotTable + BitVec.ofNat 64 (32 * slot))))
      ∧ (∀ f p o, s.lw k = .placing f p → s.order? f.stream = some o →
        let a := p.page + BitVec.ofNat 64 p.offset
        let staged := (s.lr k).staging.bytes
        let most := min 256 (min (4096 - a.toNat % 4096) (256 * 2 ^ o.params.sizeCode - p.offset))
        (0 < most → most ≤ staged.length →
          request (laneClient k) s = some (.dataWrite k a (staged.take most)))
        ∧ (staged.length < most → f.ended.isSome = true → staged ≠ [] →
          request (laneClient k) s = some (.dataWrite k a staged))
        ∧ (most = 0 ∨ (staged.length < most ∧ (f.ended = none ∨ staged = [])) →
          request (laneClient k) s = none))
      ∧ (s.lw k = .idle ∨ (∃ f slot read, s.lw k = .searching f slot read true)
          ∨ (∃ f p, s.lw k = .closing f p) ∨ (∃ f p stage mb, s.lw k = .committing f p stage mb)
          ∨ (∃ d, s.lw k = .dropping d) →
        request (laneClient k) s = none))
  ∧ ∀ (s u : State) (t : Txn), s.awake → ReporterLaw s → s.port.issuePoint = none →
    exec .grant s = .next u → u.port.issuePoint = some t →
    (∀ k a, t = .slotRead k a → ∃ f slot read o, s.lw k = .searching f slot read false
      ∧ s.order? f.stream = some o ∧ a = o.params.slotTable + BitVec.ofNat 64 (32 * slot)
      ∧ u = { s.setLw k (.searching f slot read true) with port := u.port })
    ∧ (∀ k a bytes, t = .dataWrite k a bytes → ∃ f p o, s.lw k = .placing f p
      ∧ s.order? f.stream = some o
      ∧ a = p.page + BitVec.ofNat 64 p.offset
      ∧ (let size := 256 * 2 ^ o.params.sizeCode
        let staged := (s.lr k).staging.bytes
        let most := min 256 (min (4096 - a.toNat % 4096) (size - p.offset))
        let left := (s.lr k).staging.take bytes.length
        let p' : Placement := { p with
          offset := p.offset + bytes.length, outstanding := p.outstanding + 1 }
        0 < bytes.length ∧ bytes = staged.take bytes.length
        ∧ (bytes.length = most ∨ (staged.length < most ∧ f.ended.isSome = true ∧ bytes = staged))
        ∧ left.bytes = staged.drop bytes.length
        ∧ left.headLeft = (if left.bytes = [] then 0
            else ((s.lr k).staging.headLeft + bytes.length) % 64)
        ∧ u = { (s.setLr k { s.lr k with staging := left }).setLw k
            (if p'.offset = size ∨ (f.ended.isSome = true ∧ left.bytes = []) then .closing f p'
              else .placing f p') with port := u.port }))
    ∧ ((∃ a, t = .anchorRead a ∨ t = .orderRead a ∨ t = .linkRead a) → ∃ j, s.walker.inHand = some j
      ∧ j.stage.readIssued = false
      ∧ u = { s with port := u.port, walker := { s.walker with
          inHand := some { j with stage := j.stage.issue } } })
    ∧ (∀ a, t = .headerRead a → ∃ l, s.dc.device = .loading l ∧ l.issued = false
      ∧ u = { s with port := u.port, dc := { s.dc with device := .loading { l with issued := true } } })
    ∧ (t.client = reporterClient → s.rw.queue.head? = some t
      ∧ u = { s with port := u.port, rw := { s.rw with queue := s.rw.queue.tail } })

/-- ISSUE_ACCEPTED frees the issue point (R130). LATE_RESPONSE lowers an expired count above 0 by one and
does nothing else; with none expired there is nothing late to discard. While a client and direction are owed
an expired response, any response command of theirs is the late one (R131). -/
def Obligations.AcceptanceAndLateResponses : Prop :=
  ∀ s : State, s.awake →
    exec .issueAccepted s = .next { s with port := { s.port with issuePoint := none } }
    ∧ (∀ c d, s.expired c d = 0 → exec (.lateResponse c d) s = .next s)
    ∧ ∀ c d, s.expired c d ≠ 0 →
      exec (.lateResponse c d) s = .next (s.setExpired c d (s.expired c d - 1))
      ∧ (c = walkerClient → d = .read → ∀ x : Instr,
          ((∃ a, x = .anchorReadDone a ∨ x = .linkReadDone a) ∨ (∃ a, x = .orderReadDone a
            ∨ x = .boardHeaderReadDone a) ∨ x = .anchorReadFault ∨ x = .linkReadFault
            ∨ x = .orderReadFault ∨ x = .boardHeaderReadFault) →
          exec x s = exec (.lateResponse c d) s)
      ∧ (c = reporterClient → d = .write → ∀ x : Instr,
          (x = .metadataWriteDone ∨ x = .fillWriteDone ∨ x = .deviceHalfWriteDone
            ∨ x = .streamStatusWriteDone ∨ x = .summaryWriteDone ∨ x = .laneStatusWriteDone
            ∨ x = .commitWriteFault ∨ x = .deviceHalfWriteFault ∨ x = .boardWriteFault) →
          exec x s = exec (.lateResponse c d) s)
      ∧ ∀ k, c = laneClient k →
          (d = .read → (∀ a, exec (.slotReadDone k a) s = exec (.lateResponse c d) s)
            ∧ exec (.slotReadFault k) s = exec (.lateResponse c d) s)
          ∧ (d = .write → exec (.dataWriteDone k) s = exec (.lateResponse c d) s
            ∧ exec (.dataWriteFault k) s = exec (.lateResponse c d) s)

/-- Each transaction on the bus: its client, its direction, its address, its size and, for a write, the bytes
it carries, those of a record as the record is laid out; a device half lies at byte 64 of its order. The fields
of each record are at their offsets, least significant byte first, with 0 everywhere else; the encodings of each
field, and what a status record shows of each stream state. Every byte of a transaction's range lies in one of
its 16-byte beats, which are aligned, and a write enables those bytes of a beat only (R26, R120, R121, R122,
R185, 10.4 to 10.8). -/
def Obligations.RecordsOnTheBus : Prop :=
  (let reads (t : Txn) (client : Nat) (address : Addr) (size : Nat) : Prop :=
      t.client.val = client ∧ t.direction = .read ∧ t.address = address ∧ t.size = size ∧ t.bytes = []
    let writes (t : Txn) (client : Nat) (address : Addr) (size : Nat) (bytes : List Byte) : Prop :=
      t.client.val = client ∧ t.direction = .write ∧ t.address = address ∧ t.size = size ∧ t.bytes = bytes
    ∀ a : Addr,
      (∀ k : Lane, reads (.slotRead k a) k.val a 16
        ∧ (∀ bytes, writes (.dataWrite k a bytes) k.val a bytes.length bytes)
        ∧ (∀ m : SlotMeta, writes (.metadataWrite k a m) 13 a 28 m.bytes)
        ∧ ∀ v : Half, writes (.fillWrite k a v) 13 a 2 (Txn.fillWrite k a v).bytes)
      ∧ reads (.anchorRead a) 12 a 16 ∧ reads (.orderRead a) 12 a 128 ∧ reads (.linkRead a) 12 a 16
      ∧ reads (.headerRead a) 12 a 128
      ∧ (∀ st d (h : DeviceHalf), writes (.deviceHalfWrite st d a h) 13 (a + 64) 64 h.bytes)
      ∧ (∀ r : StreamRecord, writes (.streamStatusWrite a r) 13 a 64 r.bytes)
      ∧ (∀ r : LaneRecord, writes (.laneStatusWrite a r) 13 a 32 r.bytes)
      ∧ ∀ r : Summary, writes (.summaryWrite a r) 13 a 32 r.bytes) ∧
  [OrderOutcome.pending, .active, .done, .cut, .noTrigger, .refused, .window, .fault].map
      (fun x => x.code.toNat) = [0, 1, 2, 3, 4, 5, 6, 7]
  ∧ [Reason.none, .singleMet, .countMet, .halted, .haltedInFlight, .armLimit, .pastAtEnable].map
      (fun x => x.code.toNat) = [0, 1, 2, 3, 4, 5, 6]
  ∧ [Reason.badKind, .badStart, .badSense, .badGate, .badPolicy, .badThin, .badSize, .badCount, .baseAlign,
      .slotAlign, .badTarget, .reservedSet].map (fun x => x.code.toNat)
      = [16, 17, 18, 19, 20, 21, 22, 23, 24, 25, 26, 27]
  ∧ [Reason.pagesOutside, .slotsOutside, .recordOutside, .readFault, .writeFault, .laneDisabled].map
      (fun x => x.code.toNat) = [32, 33, 34, 48, 49, 50]
  ∧ [RequestResult.noResult, .done, .wrongState, .bindingTaken, .laneDisabled, .badHead, .badWindow,
      .badField].map (fun x => x.code.toNat) = [0, 1, 2, 3, 4, 5, 6, 7]
  ∧ [FaultCode.orderOutside, .staleOrder, .linkBad, .readFault, .writeFault, .laneDisabled].map
      (fun x => x.code.toNat) = [1, 2, 3, 4, 5, 6]
  ∧ (∀ run v, [Lock.off, .hunting run, .locked v].map (fun x => x.code.toNat) = [0, 1, 2])
  ∧ [SummaryState.running, .quiescing, .quiet].map (fun x => x.code.toNat) = [2, 3, 4]
  ∧ (∀ a ready, (ResumePoint.fetch a).code.toNat = 1 ∧ (ResumePoint.link a ready).code.toNat = 2)
  ∧ (let shows (x : Standing) := (x.code.toNat, x.binding?, x.resume?, x.fault?, x.orderAddress)
    shows .idle = (0, none, none, none, 0)
    ∧ ∀ b o d a c ready, shows (.bound b (.fetching (.fetch a))) = (1, some b, some (.fetch a), none, a)
      ∧ shows (.bound b (.fetching (.link a ready))) = (1, some b, some (.link a ready), none, a)
      ∧ shows (.bound b (.armed o d)) = (2, some b, none, none, o.address)
      ∧ shows (.bound b (.capturing o)) = (3, some b, none, none, o.address)
      ∧ shows (.bound b (.halting o)) = (4, some b, none, none, o.address)
      ∧ shows (.bound b (.halted (.fetch a))) = (5, some b, some (.fetch a), none, a)
      ∧ shows (.bound b (.halted (.link a ready))) = (5, some b, some (.link a ready), none, a)
      ∧ shows (.bound b (.parked a)) = (6, some b, none, none, a)
      ∧ shows (.bound b (.faulted c)) = (7, some b, none, some c, 0))
  ∧ (∀ h : DeviceHalf, let c := h.counters
    LaidOut h.bytes 64 [(0, 1, h.outcome.code.toNat), (1, 1, h.reason.code.toNat),
      (2, 2, (c.first.getD 0).toNat), (4, 2, (c.last.getD 0).toNat), (8, 4, c.met.toNat),
      (12, 4, c.passedOver.toNat), (16, 4, c.thinned.toNat), (20, 4, c.gated.toNat),
      (24, 4, c.held.toNat), (28, 4, c.lost.toNat), (32, 4, c.committed.toNat),
      (36, 4, c.edgesIgnored.toNat), (40, 8, h.acceptTime.toNat), (48, 8, h.retireTime.toNat)])
  ∧ (∀ m : SlotMeta, LaidOut m.bytes 28 [(0, 2, m.flags.toNat), (2, 2, m.sourceNumber.toNat),
      (4, 4, m.length.toNat), (8, 4, m.gauge.toNat), (12, 4, m.commitIndex.toNat),
      (16, 8, m.commitTime.toNat)])
  ∧ (∀ (x : Standing) (acted : Byte) (result : RequestResult) (last : Option Half)
      (unclaimed missed publication : Word),
      let b := x.binding?
      LaidOut (StreamRecord.bytes ⟨⟨x, acted, result, last, unclaimed, missed⟩, publication⟩) 64
        [(0, 1, x.code.toNat), (1, 1, acted.toNat), (2, 1, result.code.toNat),
          (3, 1, (b.map fun y => y.lane.val).getD 0), (4, 1, (b.map fun y => y.tag.val).getD 0),
          (5, 1, (b.map fun y => y.window.val).getD 0),
          (6, 1, (x.resume?.map fun y => y.code.toNat).getD 0),
          (7, 1, (x.fault?.map fun y => y.code.toNat).getD 0), (8, 8, x.orderAddress.toNat),
          (16, 4, unclaimed.toNat), (20, 4, missed.toNat), (24, 2, (last.getD 0).toNat),
          (26, 1, if last.isSome then 1 else 0), (28, 4, publication.toNat)])
  ∧ (∀ r : LaneRecord, let c := r.counters
    LaidOut r.bytes 32 [(0, 1, r.lock.code.toNat), (2, 2, c.unbound.toNat), (4, 2, c.checkFailures.toNat),
      (6, 2, c.lengthErrors.toNat), (8, 2, c.badHeaders.toNat), (10, 2, c.overflows.toNat),
      (12, 2, c.codeViolations.toNat), (14, 2, c.lockLosses.toNat), (16, 2, c.sourceAborts.toNat),
      (18, 2, c.refused.toNat), (20, 4, c.framesStarted.toNat), (24, 8, r.refreshTime.toNat)])
  ∧ (∀ r : Summary, LaidOut r.bytes 32
      [(0, 4, r.reportNumber.toNat), (4, 1, r.device.code.toNat), (8, 8, r.time.toNat)])
  ∧ (∀ k a v, LaidOut (Txn.fillWrite k a v).bytes 2 [(0, 2, v.toNat)])
  ∧ ∀ t : Txn, (t.direction = .write → t.bytes.length = t.size)
    ∧ (∀ a, t.address.toNat ≤ a → a < t.address.toNat + t.size → 16 * (a / 16) ∈ t.beats)
    ∧ ∀ beat ∈ t.beats, beat % 16 = 0 ∧ (t.byteEnables beat).length = 16
      ∧ ∀ i, i < 16 → ((t.byteEnables beat)[i]? = some true
          ↔ t.address.toNat ≤ beat + i ∧ beat + i < t.address.toNat + t.size)

/-! ### The Chain Walker -/

/-- ORDER_READ_ISSUE: in RUNNING and QUIESCING the order read is presented once no earlier device-half
write is still to end, for a stream that still holds the fetch step (R36).
ANCHOR_JOB, FETCH_JOB and LINK_JOB: in RUNNING, with no job in hand, the walker takes the queue's head.
An ANCHOR job presents its anchor read; a FETCH job takes a fetch step whose record lies in the window, and
faults the stream ORDER_OUTSIDE otherwise; a LINK job takes a ready link step; with no such step the job
ends without access (R31, R36, R37; that the writes waited for are those open when the fetch step begins is
log entry 11). A range lies inside a window when both its ends do, the sums formed exactly, and no range lies in
one of size 0; the windows are those of the snapshot in force; and the writes open are the device-half writes,
of any stream, that are queued at the Report Writer or outstanding (R36, R37). -/
def Obligations.WalkerTakesItsJobs : Prop :=
  (∀ (w : Window) (a : Addr) (n : Nat), insideWindow w a n = true ↔ w.granules.toNat ≠ 0
    ∧ w.base.toNat ≤ a.toNat ∧ a.toNat + n ≤ w.base.toNat + 4096 * w.granules.toNat)
  ∧ (∀ (s : State) (n : Snapshot) (i : WindowIndex), s.dc.snapshot = some n → s.window i = n.windows[i.val])
  ∧ (∀ s : State, halvesOpen s = s.unended Txn.isDeviceHalf) ∧
  (∀ (s : State) (job : Job) (a : Addr) (n : Nat), s.awake → s.working →
    s.walker.inHand = some ⟨job, .awaitWrites a n⟩ →
    (n ≠ 0 → exec .orderReadIssue s = .next s)
    ∧ (n = 0 → ∀ b, s.standing job.stream = .bound b (.fetching (.fetch a)) →
      exec .orderReadIssue s = .next { s with
        walker := { s.walker with inHand := some ⟨job, .orderRead a false⟩ } }
      ∧ request walkerClient { s with
          walker := { s.walker with inHand := some ⟨job, .orderRead a false⟩ } }
        = some (.orderRead a)))
  ∧ ∀ (s : State) (st : StreamId) (kind : JobKind) (rest : List Job), s.awake →
    s.dc.device = .running → s.walker.inHand = none → s.walker.queue = ⟨st, kind⟩ :: rest →
    let took (stage : Option JobStage) : State := { s with walker := { s.walker with
      queue := rest, inHand := stage.map fun x => ⟨⟨st, kind⟩, x⟩ } }
    (kind = .anchor → exec .anchorJob s = .next (took (some (.anchorRead false)))
      ∧ request walkerClient (took (some (.anchorRead false)))
        = some (.anchorRead (s.board + BitVec.ofNat 64 (0x200 + 16 * st.val))))
    ∧ (kind = .fetch →
      (∀ b a, s.standing st = .bound b (.fetching (.fetch a)) →
        (insideWindow (s.window b.window) a 128 = true →
          exec .fetchJob s = .next (took (some (.awaitWrites a (halvesOpen s)))))
        ∧ (insideWindow (s.window b.window) a 128 = false →
          exec .fetchJob s = .next { (took none).setStanding st (.bound b (.faulted .orderOutside)) with
            rw := { s.rw with pendingSet := s.rw.pendingSet.set st.val true } }))
      ∧ ((∀ b a, s.standing st ≠ .bound b (.fetching (.fetch a))) →
        exec .fetchJob s = .next (took none)))
    ∧ (kind = .link →
      (∀ b a, s.standing st = .bound b (.fetching (.link a true)) →
        exec .linkJob s = .next (took (some (.linkRead a false))))
      ∧ ((∀ b a, s.standing st ≠ .bound b (.fetching (.link a true))) →
        exec .linkJob s = .next (took none)))

/-- The fields of an anchor at their bytes, least significant byte first; and so every field of a record that a
read returns (10.3, R185). ANCHOR_READ_DONE with no new request: the job goes on by the stream's state (R12,
R23, R31). With a new request the same happens after the request's own effect, which is what its row does
alone; an unknown kind is answered BAD_FIELD (R13; that the rows stand alone is log entry 3, that a fetch step
waits for the writes open when it begins log entry 11). -/
def Obligations.AnchorReadActsAndGoesOn : Prop :=
  (∀ (m i n : Nat) (data : BitVec m), (field data i n).toNat = data.toNat / 256 ^ i % 256 ^ n
    ∧ (byteAt data i).toNat = data.toNat / 256 ^ i % 256)
  ∧ (∀ data : Read16,
    let a := parseAnchor data
    let at' (i n : Nat) : Nat := data.toNat / 256 ^ i % 256 ^ n
    a.number.toNat = at' 0 1 ∧ a.kind.toNat = at' 1 1 ∧ a.lane.toNat = at' 2 1 ∧ a.tag.toNat = at' 3 1
    ∧ a.window.toNat = at' 4 1 ∧ a.reserved.toNat = at' 5 3 ∧ a.head.toNat = at' 8 8)
  ∧ ∀ (s : State) (t : Txn) (address : Addr) (job : Job) (data : Read16), t = .anchorRead address →
    Answers s t → s.working → s.walker.inHand = some ⟨job, .anchorRead true⟩ →
    let st := job.stream
    let u := s.ended t
    let a := parseAnchor data
    let goesOnFrom (w : State) : Prop :=
      (∀ b x, w.standing st = .bound b (.parked x) →
        exec (.anchorReadDone data) s = .next (w.setInHand (some ⟨job, .linkRead x false⟩)))
      ∧ (∀ b x, w.standing st = .bound b (.fetching (.link x true)) →
        exec (.anchorReadDone data) s = .next (w.setInHand (some ⟨job, .linkRead x false⟩)))
      ∧ (∀ b x, w.standing st = .bound b (.fetching (.fetch x)) →
        insideWindow (s.window b.window) x 128 = true →
        exec (.anchorReadDone data) s = .next
          (w.setInHand (some ⟨job, .awaitWrites x (halvesOpen w)⟩)))
      ∧ (∀ b x, w.standing st = .bound b (.fetching (.fetch x)) →
        insideWindow (s.window b.window) x 128 = false →
        exec (.anchorReadDone data) s = .next { (w.setStanding st
            (.bound b (.faulted .orderOutside))).setInHand none with
          rw := { w.rw with pendingSet := w.rw.pendingSet.set st.val true } })
      ∧ ((∀ b x, w.standing st ≠ .bound b (.parked x)) →
        (∀ b x, w.standing st ≠ .bound b (.fetching (.link x true))) →
        (∀ b x, w.standing st ≠ .bound b (.fetching (.fetch x))) →
        exec (.anchorReadDone data) s = .next (w.setInHand none))
    (a.number = (s.ctx st).acted → goesOnFrom u)
    ∧ (a.number ≠ (s.ctx st).acted → ∃ w, goesOnFrom w
      ∧ (a.kind = 1 → exec (.start st a.number a.lane a.tag a.window a.reserved a.head) u = .next w)
      ∧ (a.kind = 2 → exec (.halt st a.number) u = .next w)
      ∧ (a.kind = 3 → exec (.resume st a.number) u = .next w)
      ∧ (a.kind = 4 → exec (.forget st a.number) u = .next w)
      ∧ (a.kind.toNat = 0 ∨ 4 < a.kind.toNat →
          w = { u.setCtx st { s.ctx st with acted := a.number, result := .badField } with
            rw := { s.rw with pendingSet := s.rw.pendingSet.set st.val true } }))

/-! ### Requests -/

/-- START: taken in IDLE when every check passes, in the order of R14; otherwise only the acted number and
the result of the first check that fails are recorded; the stream is made pending either way (R13, R14,
R15; that WRONG_STATE comes before BAD_FIELD outside IDLE is log entry 29). A stream holds a pair when it is bound
to it (R3), and a lane is enabled as the snapshot in force has it. MODEL'S CHOICE, log entry 3: a request can be
acted on while the job in hand reads the stream's anchor, and in RUNNING while no job of the stream is in hand. -/
def Obligations.StartBindsTheStream : Prop :=
  (∀ (s : State) (st : StreamId), requestOpen st s = true ↔
    (∃ job issued, s.walker.inHand = some ⟨job, .anchorRead issued⟩ ∧ job.stream = st)
    ∨ (s.dc.device = .running ∧ ∀ j, s.walker.inHand = some j → j.job.stream ≠ st))
  ∧ (∀ (s : State) (st : StreamId) (lane : Lane) (tag : Tag), holdsPair lane tag s st = true ↔
    ∃ b p, s.standing st = .bound b p ∧ b.lane = lane ∧ b.tag = tag)
  ∧ (∀ (s : State) (n : Snapshot) (k : Lane), s.dc.snapshot = some n →
    s.laneEnabled k = n.lanes[k.val].enabled)
  ∧ ∀ (s : State) (st : StreamId) (number lane tag window : Byte) (reserved : BitVec 24) (head : Addr),
    s.awake → s.working → requestOpen st s = true → number ≠ (s.ctx st).acted →
    let inRange := reserved = 0 ∧ lane.toNat < 12 ∧ tag.toNat < 4 ∧ window.toNat < 8
    let run := exec (.start st number lane tag window reserved head) s
    let pended : Reporter := { s.rw with pendingSet := s.rw.pendingSet.set st.val true }
    let answered (r : RequestResult) : State :=
      { s.setCtx st { s.ctx st with acted := number, result := r } with rw := pended }
    (s.standing st ≠ .idle → run = .next (answered .wrongState))
    ∧ (s.standing st = .idle → ¬ inRange → run = .next (answered .badField))
    ∧ ∀ b : Binding, s.standing st = .idle → reserved = 0 → b.lane.val = lane.toNat →
      b.tag.val = tag.toNat → b.window.val = window.toNat →
      let taken := ∃ x, x ≠ st ∧ holdsPair b.lane b.tag s x = true
      let badHead := head = 0 ∨ head.toNat % 128 ≠ 0
      (taken → run = .next (answered .bindingTaken))
      ∧ (¬ taken → s.laneEnabled b.lane = false → run = .next (answered .laneDisabled))
      ∧ (¬ taken → s.laneEnabled b.lane = true → badHead → run = .next (answered .badHead))
      ∧ (¬ taken → s.laneEnabled b.lane = true → ¬ badHead → (s.window b.window).granules = 0 →
          run = .next (answered .badWindow))
      ∧ (¬ taken → s.laneEnabled b.lane = true → ¬ badHead → (s.window b.window).granules ≠ 0 →
          run = .next { s.setCtx st
            ⟨.bound b (.fetching (.fetch head)), number, .done, none, 0, 0⟩ with rw := pended })

/-- HALT: FETCHING and PARKED go to HALTED with the step kept or the tail's link named; an order with no
frame in flight is retired CUT; with one the stream goes to HALTING; every other state refuses it (R15 to
R18, R20; when a request can be acted on is log entry 3). -/
def Obligations.HaltStopsTheStream : Prop :=
  ∀ (s : State) (st : StreamId) (number : Byte), s.awake → s.working → requestOpen st s = true →
    number ≠ (s.ctx st).acted →
    let pended : Reporter := { s.rw with pendingSet := s.rw.pendingSet.set st.val true }
    let answered (x : Standing) (r : RequestResult) : State :=
      { s.setCtx st { s.ctx st with standing := x, acted := number, result := r } with rw := pended }
    let cut (b : Binding) (o : CurrentOrder) : State :=
      { answered (.bound b (.halted (.link o.address false))) .done with
        rw := { pended with queue := s.rw.queue ++ [.deviceHalfWrite st false o.address
          ⟨.cut, .halted, o.counters, o.acceptTime, s.now⟩] } }
    (∀ b r, s.standing st = .bound b (.fetching r) →
      exec (.halt st number) s = .next (answered (.bound b (.halted r)) .done))
    ∧ (∀ b a, s.standing st = .bound b (.parked a) →
      exec (.halt st number) s = .next (answered (.bound b (.halted (.link a false))) .done))
    ∧ (∀ b o d, s.standing st = .bound b (.armed o d) →
      exec (.halt st number) s = .next (cut b o))
    ∧ (∀ b o, s.standing st = .bound b (.capturing o) →
      ((s.lw b.lane).stream? ≠ some st → exec (.halt st number) s = .next (cut b o))
      ∧ ((s.lw b.lane).stream? = some st →
        exec (.halt st number) s = .next (answered (.bound b (.halting o)) .done)))
    ∧ ((s.standing st = .idle ∨ ∃ b, (∃ o, s.standing st = .bound b (.halting o))
          ∨ (∃ r, s.standing st = .bound b (.halted r)) ∨ ∃ c, s.standing st = .bound b (.faulted c)) →
      exec (.halt st number) s = .next (answered (s.standing st) .wrongState))

/-- RESUME takes HALTED to FETCHING with its step, a link step being ready there; FORGET takes HALTED,
PARKED and FAULTED to IDLE, giving up the binding and all it held, and keeps the two stream counts; no
queued or outstanding transaction is changed by it, but the stream's device-half writes and the frame of it
that a Lane Writer still drops are marked as no longer its own. Every other state refuses them (R15, R21, R22,
R31, R152, R159; when a request can be acted on is log entry 3, the marks are log entry 22). -/
def Obligations.ResumeAndForget : Prop :=
  ∀ (s : State) (st : StreamId) (number : Byte), s.awake → s.working → requestOpen st s = true →
    number ≠ (s.ctx st).acted →
    let pended : Reporter := { s.rw with pendingSet := s.rw.pendingSet.set st.val true }
    let answered (x : Standing) (r : RequestResult) : State :=
      { s.setCtx st { s.ctx st with standing := x, acted := number, result := r } with rw := pended }
    let seenOnBus (t : Txn) := (t.client, t.direction, t.address, t.bytes)
    let mark (t : Txn) : Txn := match t with
      | .deviceHalfWrite x own a h => .deviceHalfWrite x (if x = st then true else own) a h
      | _ => t
    (∀ b a, s.standing st = .bound b (.halted (.fetch a)) →
      exec (.resume st number) s = .next (answered (.bound b (.fetching (.fetch a))) .done))
    ∧ (∀ b a ready, s.standing st = .bound b (.halted (.link a ready)) →
      exec (.resume st number) s = .next (answered (.bound b (.fetching (.link a true))) .done))
    ∧ ((∀ b r, s.standing st ≠ .bound b (.halted r)) →
      exec (.resume st number) s = .next (answered (s.standing st) .wrongState))
    ∧ ((∃ b, (∃ r, s.standing st = .bound b (.halted r)) ∨ (∃ a, s.standing st = .bound b (.parked a))
          ∨ ∃ c, s.standing st = .bound b (.faulted c)) →
      ∃ t, exec (.forget st number) s = .next t
        ∧ t.ctx st = ⟨.idle, number, .done, none, (s.ctx st).unclaimed, (s.ctx st).missed⟩
        ∧ (∀ x, x ≠ st → t.ctx x = s.ctx x)
        ∧ t.dc = s.dc ∧ t.walker = s.walker ∧ t.receivers = s.receivers
        ∧ t.rw = { pended with queue := t.rw.queue } ∧ t.port = { s.port with table := t.port.table }
        ∧ t.rw.queue.map seenOnBus = s.rw.queue.map seenOnBus
        ∧ t.port.table.map (fun e => (seenOnBus e.txn, e.timeout))
            = s.port.table.map (fun e => (seenOnBus e.txn, e.timeout))
        ∧ t.rw.queue = s.rw.queue.map mark
        ∧ t.port.table = s.port.table.map (fun e => { e with txn := mark e.txn })
        ∧ ∀ k, (∀ d, s.lw k = .dropping d → t.lw k = .dropping
              { d with disowned := if d.frame.stream = st then true else d.disowned })
          ∧ ((∀ d, s.lw k ≠ .dropping d) → t.lw k = s.lw k))
    ∧ ((s.standing st = .idle ∨ ∃ b, (∃ r, s.standing st = .bound b (.fetching r))
          ∨ (∃ o d, s.standing st = .bound b (.armed o d)) ∨ (∃ o, s.standing st = .bound b (.capturing o))
          ∨ ∃ o, s.standing st = .bound b (.halting o)) →
      exec (.forget st number) s = .next (answered (s.standing st) .wrongState))

/-! ### Orders and links -/

/-- Check 4 of a fetch: the tests of R40 in order; the first that fails gives the reason, and an order that
passes them all is parsed with the fields of 10.7. -/
def Obligations.OrderChecksInOrder : Prop :=
  ∀ d : Read128,
    let byte (i : Nat) : Nat := (byteAt d i).toNat
    let half (i : Nat) : Nat := byte i + 256 * byte (i + 1)
    let word (i : Nat) : Nat := half i + 65536 * half (i + 2)
    let long (i : Nat) : Nat := word i + 4294967296 * word (i + 4)
    let tests : List (Bool × Reason) := [
      (1 ≤ byte 8 && byte 8 ≤ 3, .badKind),
      (1 ≤ byte 9 && byte 9 ≤ 3, .badStart),
      (byte 9 != 2 || (1 ≤ byte 10 && byte 10 ≤ 3), .badSense),
      (byte 11 ≤ 2, .badGate),
      (byte 12 ≤ 1, .badPolicy),
      (1 ≤ byte 13 && byte 13 ≤ 16, .badThin),
      (byte 14 ≤ 14, .badSize),
      (1 ≤ half 16 && half 16 ≤ 256, .badCount),
      (long 32 % (256 * 2 ^ byte 14) == 0, .baseAlign),
      (long 40 % 32 == 0, .slotAlign),
      (byte 8 != 2 || word 28 != 0, .badTarget),
      (byte 15 == 0 && half 22 == 0 && long 48 == 0 && long 56 == 0, .reservedSet)]
    match tests.find? (fun x => !x.1) with
    | some x => parseOrder d = .error x.2
    | none => ∃ p, parseOrder d = .ok p
        ∧ (p.kind = .single ↔ byte 8 = 1) ∧ (p.kind = .count ↔ byte 8 = 2) ∧ (p.kind = .open ↔ byte 8 = 3)
        ∧ (p.start = .immediate ↔ byte 9 = 1) ∧ (p.start = .edge ↔ byte 9 = 2)
        ∧ (p.start = .mark ↔ byte 9 = 3) ∧ p.sense.toNat = byte 10
        ∧ (p.gate = .none ↔ byte 11 = 0) ∧ (p.gate = .atOrAbove ↔ byte 11 = 1)
        ∧ (p.gate = .below ↔ byte 11 = 2)
        ∧ (p.policy = .strict ↔ byte 12 = 0) ∧ (p.policy = .seek ↔ byte 12 = 1)
        ∧ p.thin = byte 13 ∧ p.sizeCode = byte 14 ∧ p.pageCount = half 16
        ∧ p.armLimit.toNat = half 18 ∧ p.reportInterval.toNat = half 20
        ∧ p.gateLevel.toNat = word 24 ∧ p.target.toNat = word 28
        ∧ p.pageBase.toNat = long 32 ∧ p.slotTable.toNat = long 40

/-- ORDER_READ_DONE: a record whose outcome byte is not 0 faults the stream STALE_ORDER with no write; one
that fails check 4 or 5 is retired at fetch; one that passes is accepted, its stream CAPTURING for an
IMMEDIATE start and ARMED otherwise, with a deadline when it has an arm limit (R7, R39, R40 to R43, R77,
R83). The job in hand ends. -/
def Obligations.OrderReadJudgesTheOrder : Prop :=
  ∀ (s : State) (t : Txn) (address a : Addr) (job : Job) (b : Binding) (data : Read128),
    t = .orderRead address → Answers s t → s.working →
    s.walker.inHand = some ⟨job, .orderRead a true⟩ →
    s.standing job.stream = .bound b (.fetching (.fetch a)) →
    let st := job.stream
    let u := (s.ended t).setInHand none
    let pended : Reporter := { s.rw with pendingSet := s.rw.pendingSet.set st.val true }
    let wrote (h : DeviceHalf) : Reporter :=
      { pended with queue := s.rw.queue ++ [.deviceHalfWrite st false a h] }
    let refusedAtFetch (outcome : OrderOutcome) (r : Reason) : State :=
      { u.setStanding st (.bound b (.fetching (.link a false))) with
        rw := wrote ⟨outcome, r, Counters.zero, 0, s.now⟩ }
    ((byteAt data 64) ≠ 0 → exec (.orderReadDone data) s = .next
      { u.setStanding st (.bound b (.faulted .staleOrder)) with rw := pended })
    ∧ ((byteAt data 64) = 0 →
      (∀ r, parseOrder data = .error r →
        exec (.orderReadDone data) s = .next (refusedAtFetch .refused r))
      ∧ ∀ p, parseOrder data = .ok p →
        let pages := insideWindow (s.window b.window) p.pageBase (p.pageCount * (256 * 2 ^ p.sizeCode))
        let slots := insideWindow (s.window b.window) p.slotTable (32 * p.pageCount)
        (pages = false →
          exec (.orderReadDone data) s = .next (refusedAtFetch .window .pagesOutside))
        ∧ (pages = true → slots = false →
          exec (.orderReadDone data) s = .next (refusedAtFetch .window .slotsOutside))
        ∧ (pages = true → slots = true →
          let o : CurrentOrder := ⟨a, p, 0, 0, Counters.zero, 0, s.now⟩
          exec (.orderReadDone data) s = .next
            { u.setStanding st (.bound b (if p.start = .immediate then .capturing o
                else .armed o (if p.armLimit = 0 then none
                  else some (s.now + BitVec.ofNat 64 (1000 * p.armLimit.toNat))))) with
              rw := wrote ⟨.active, .none, Counters.zero, s.now, 0⟩ }))

/-- A link step is one 16-byte read of the order its job names, which the stream's resume point or tail
anchor names. LINK_READ_DONE and LINK_READ_FAULT: what the read makes of a FETCHING or PARKED stream; a
nonzero aligned link asks for a FETCH job in RUNNING (R9, R35, R48, R49). The job in hand ends. -/
def Obligations.LinkReadMovesTheStream : Prop :=
  (∀ (s : State) (job : Job) (a : Addr), s.working → s.walker.inHand = some ⟨job, .linkRead a false⟩ →
    request walkerClient s = some (.linkRead a)
    ∧ (Txn.linkRead a).direction = .read ∧ (Txn.linkRead a).address = a ∧ (Txn.linkRead a).size = 16)
  ∧ ∀ (s : State) (t : Txn) (address a : Addr) (job : Job) (b : Binding) (data : Read16),
    t = .linkRead address → Answers s t → s.working →
    s.walker.inHand = some ⟨job, .linkRead a true⟩ →
    ((∃ ready, s.standing job.stream = .bound b (.fetching (.link a ready)))
      ∨ s.standing job.stream = .bound b (.parked a)) →
    let st := job.stream
    let u := (s.ended t).setInHand none
    let pended : Reporter := { s.rw with pendingSet := s.rw.pendingSet.set st.val true }
    let link : Addr := field data 0 8
    let moved (p : Phase) : State := { u.setStanding st (.bound b p) with rw := pended }
    (link = 0 → s.standing job.stream ≠ .bound b (.parked a) →
      exec (.linkReadDone data) s = .next (moved (.parked a)))
    ∧ (link = 0 → s.standing job.stream = .bound b (.parked a) →
      exec (.linkReadDone data) s = .next u)
    ∧ (link ≠ 0 → link.toNat % 128 ≠ 0 →
      exec (.linkReadDone data) s = .next (moved (.faulted .linkBad)))
    ∧ (link ≠ 0 → link.toNat % 128 = 0 →
      exec (.linkReadDone data) s = .next { moved (.fetching (.fetch link)) with
        walker := { s.walker with
          inHand := none
          queue := if s.dc.device = .running ∧ ∀ j ∈ s.walker.queue, j.stream ≠ st then
            s.walker.queue ++ [⟨st, .fetch⟩] else s.walker.queue } })
    ∧ exec .linkReadFault s = .next (moved (.faulted .readFault))

/-! ### Loading the Board header -/

/-- The 14 tests of a candidate header, in the order of R175, steps 4, 7 and 11 admitting every value: the
first that fails gives its number, and a header that passes them all is the snapshot. -/
def Obligations.HeaderTestsInOrder : Prop :=
  ∀ h : BitVec 4096,
    let byte (i : Nat) : Nat := (byteAt h i).toNat
    let half (i : Nat) : Nat := byte i + 256 * byte (i + 1)
    let word (i : Nat) : Nat := half i + 65536 * half (i + 2)
    let long (i : Nat) : Nat := word i + 4294967296 * word (i + 4)
    let lanes (test : Nat → Prop) : Prop := ∀ k, k < 12 → test (0x40 + 16 * k)
    let opened (test : Nat → Prop) : Prop :=
      ∀ w, w < 8 → word (0x108 + 16 * w) ≠ 0 → test (0x100 + 16 * w)
    let zero (first last : Nat) : Prop := ∀ i, first ≤ i → i ≤ last → byte i = 0
    let tests : List (Nat × Prop) := [
      (1, word 0 = 1),
      (2, lanes fun i => byte i ≤ 1),
      (3, lanes fun i => byte (i + 1) ≤ 2),
      (5, lanes fun i => byte (i + 4) ≤ 1),
      (6, lanes fun i => 1 ≤ byte (i + 5) ∧ byte (i + 5) ≤ 64),
      (8, opened fun i => long i % 4096 = 0),
      (9, opened fun i => long i + word (i + 8) * 4096 ≤ 18446744073709551616),
      (10, (1 ≤ byte 8 ∧ byte 8 ≤ 64) ∧ 1 ≤ byte 9 ∧ byte 9 ≤ 64),
      (12, 1 ≤ byte 5),
      (13, 16 ≤ half 6),
      (14, zero 0x0A 0x3F ∧ (∀ k, k < 12 → zero (0x46 + 16 * k) (0x4F + 16 * k))
        ∧ (∀ w, w < 8 → zero (0x10C + 16 * w) (0x10F + 16 * w)) ∧ zero 0x180 0x1FF)]
    (∀ n, parseHeader h = .error n ↔ ∃ before test after,
      tests = before ++ (n, test) :: after ∧ ¬ test ∧ ∀ x ∈ before, x.2)
    ∧ ((∀ x ∈ tests, x.2) → ∃ n, parseHeader h = .ok n
      ∧ n.sweepInterval.toNat = byte 4 ∧ n.refreshInterval.toNat = byte 5
      ∧ n.responseTimeout.toNat = half 6 ∧ n.walkerQuantum = byte 8 ∧ n.reporterQuantum = byte 9
      ∧ (∀ k : Lane, let c := n.lanes[k.val]; let i := 0x40 + 16 * k.val
          (c.enabled = true ↔ byte i = 1) ∧ (c.gauge = .sum ↔ byte (i + 1) = 0)
          ∧ (c.gauge = .peak ↔ byte (i + 1) = 1) ∧ c.overLevel.toNat = half (i + 2)
          ∧ (c.policy = .dropBad ↔ byte (i + 4) = 0) ∧ c.quantum = byte (i + 5))
      ∧ ∀ w : WindowIndex, n.windows[w.val].base.toNat = long (0x100 + 16 * w.val)
          ∧ n.windows[w.val].granules.toNat = word (0x108 + 16 * w.val))

/-- LOADING reads the header's four parts in order, one at a time; part i holds the header's bytes 128 i to
128 i + 127 (10.2). BOARD_HEADER_READ_DONE keeps each of the first three; a header that fails its tests raises
CONFIG_BAD, and BOARD_HEADER_READ_FAULT raises BOARD_READ; either returns the device to its load origin with
result REFUSED and everything else as it was (R161, R164, R174, R176). -/
def Obligations.LoadReadsFourPartsOrFails : Prop :=
  (∀ (a b c d : Read128) (i : Nat), i < 128 →
    let h := headerOf [a, b, c, d]
    byteAt h i = byteAt a i ∧ byteAt h (128 + i) = byteAt b i ∧ byteAt h (256 + i) = byteAt c i
    ∧ byteAt h (384 + i) = byteAt d i)
  ∧ ∀ (s : State) (l : Load), s.awake → s.dc.device = .loading l →
    (l.issued = false →
      request walkerClient s = some (.headerRead (s.board + BitVec.ofNat 64 (128 * l.parts.length))))
    ∧ (l.issued = true → request walkerClient s = none)
    ∧ ∀ (t : Txn) (address : Addr) (data : Read128), t = .headerRead address → Answers s t →
      let u := s.ended t
      let failed (bit : BitVec 4) : State := { u with dc := { s.dc with
        device := if l.origin = .off then .off else .quiet, result := .refused
        cause := s.dc.cause ||| bit ||| (if s.dc.cause = 0 then 0 else 8#4) } }
      (l.parts.length < 3 →
        exec (.boardHeaderReadDone data) s = .next { u with dc := { s.dc with
          device := .loading ⟨l.origin, l.parts ++ [data], false⟩ } })
      ∧ (l.parts.length = 3 → ∀ n, parseHeader (headerOf (l.parts ++ [data])) = .error n →
        exec (.boardHeaderReadDone data) s = .next (failed 4#4))
      ∧ exec .boardHeaderReadFault s = .next (failed 1#4)

/-- A load from OFF that passes enters RUNNING in one step: the snapshot is in force, enabled lanes hunt and
disabled ones are off, deficits, position and urgent pointer are reset, an ANCHOR job is queued for every
stream, both timers start, and the initial publication and a lane refresh are made (R33, R34, R118, R124,
R126, R145, R146, R177; that the lane records show the receivers after they took the new enables is log
entry 21). -/
def Obligations.EntryToRunningFromOff : Prop :=
  ∀ (s : State) (l : Load) (t : Txn) (address : Addr) (data : Read128) (n : Snapshot), s.awake →
    s.dc.device = .loading l → l.origin = .off → l.parts.length = 3 → t = .headerRead address →
    Answers s t → parseHeader (headerOf (l.parts ++ [data])) = .ok n →
    let lr (k : Lane) : Receiver :=
      let r := s.lr k
      if n.lanes[k.val].enabled = true then
        { r with lock := if r.lock = .off then .hunting 0 else r.lock }
      else { r with lock := .off, frame := none, heldLevel := none, sampled := false }
    exec (.boardHeaderReadDone data) s = .next { s.ended t with
      dc := { s.dc with device := .running, snapshot := some n }
      receivers := Vector.ofFn lr
      walker := {
        queue := allStreams.map fun st => ⟨st, .anchor⟩, inHand := none
        sweepDue := if n.sweepInterval = 0 then none
          else some (s.now + BitVec.ofNat 64 (100 * n.sweepInterval.toNat)) }
      port := { (s.ended t).port with
        deficits := Vector.replicate 14 0, position := none, urgentPointer := 0 }
      rw := { s.rw with
        initial := .pending 24 false, laneUnanswered := 12, drain := .notBegun
        refreshDue := some (s.now + BitVec.ofNat 64 (1000 * n.refreshInterval.toNat))
        queue := s.rw.queue
          ++ (allStreams.map fun st => .streamStatusWrite
            (s.board + BitVec.ofNat 64 (0x400 + 64 * st.val)) ⟨⟨.idle, 0, .noResult, none, 0, 0⟩, 0⟩)
          ++ allLanes.map fun k => .laneStatusWrite
            (s.board + BitVec.ofNat 64 (0xA00 + 32 * k.val)) ⟨(lr k).lock, (lr k).counters, s.now⟩ } }

/-- A load from QUIET that passes: every stream is tested against the new snapshot, the first test that
applies deciding, the retirement writes are made in stream order, all 24 streams are pending and a lane
refresh is made after them (R137, R145, R146, R157, R158, R177, R178, R179; that the lane records show the
receivers after they took the new enables is log entry 21). MODEL'S CHOICE, log entry 9: when a deadline is
reached at the entry, across a wrap of the time base too. -/
def Obligations.EntryToRunningFromQuiet : Prop :=
  ∀ (s : State) (l : Load) (t : Txn) (address : Addr) (data : Read128) (n : Snapshot), s.awake →
    s.dc.device = .loading l → l.origin = .quiet → l.parts.length = 3 → t = .headerRead address →
    Answers s t → parseHeader (headerOf (l.parts ++ [data])) = .ok n →
    let lr (k : Lane) : Receiver :=
      let r := s.lr k
      if n.lanes[k.val].enabled = true then
        { r with lock := if r.lock = .off then .hunting 0 else r.lock }
      else { r with lock := .off, frame := none, heldLevel := none, sampled := false }
    let enabled (b : Binding) : Bool := n.lanes[b.lane.val].enabled
    let inside (b : Binding) (a : Addr) (bytes : Nat) : Bool :=
      insideWindow n.windows[b.window.val] a bytes
    let pages (b : Binding) (o : CurrentOrder) : Bool :=
      inside b o.params.pageBase (o.params.pageCount * (256 * 2 ^ o.params.sizeCode))
    let slots (b : Binding) (o : CurrentOrder) : Bool :=
      inside b o.params.slotTable (32 * o.params.pageCount)
    let late (d : Option Time) : Bool := (d.map fun due => reached s.now due).getD false
    let dropped (b : Binding) (o : CurrentOrder) (d : Option Time) : Bool :=
      !inside b o.address 128 || !pages b o || !slots b o || late d
    let write (st : StreamId) (o : CurrentOrder) (x : OrderOutcome) (r : Reason) : Option Txn :=
      some (.deviceHalfWrite st false o.address ⟨x, r, o.counters, o.acceptTime, s.now⟩)
    let after (st : StreamId) : Standing := match s.standing st with
      | .idle => .idle
      | .bound b p =>
        if enabled b = false then .bound b (.faulted (match p with
          | .faulted c => c
          | _ => .laneDisabled))
        else match p with
          | .armed o d => if dropped b o d then .bound b (.fetching (.link o.address false))
              else .bound b p
          | .capturing o => if dropped b o none then .bound b (.fetching (.link o.address false))
              else .bound b p
          | _ => .bound b p
    let written (st : StreamId) : Option Txn := match s.standing st with
      | .idle => none
      | .bound b p => match p with
        | .armed o d =>
          if inside b o.address 128 = false then none
          else if enabled b = false then write st o .fault .laneDisabled
          else if pages b o = false then write st o .window .pagesOutside
          else if slots b o = false then write st o .window .slotsOutside
          else if late d then write st o .noTrigger .pastAtEnable
          else none
        | .capturing o =>
          if inside b o.address 128 = false then none
          else if enabled b = false then write st o .fault .laneDisabled
          else if pages b o = false then write st o .window .pagesOutside
          else if slots b o = false then write st o .window .slotsOutside
          else none
        | _ => none
    (∀ st b o, s.standing st ≠ .bound b (.halting o)) →
    ∃ u, exec (.boardHeaderReadDone data) s = .next u
      ∧ (∀ st, u.ctx st = { s.ctx st with standing := after st })
      ∧ u = { s.ended t with
          streams := u.streams
          dc := { s.dc with device := .running, snapshot := some n }
          receivers := Vector.ofFn lr
          walker := {
            queue := allStreams.map fun st => ⟨st, .anchor⟩, inHand := none
            sweepDue := if n.sweepInterval = 0 then none
              else some (s.now + BitVec.ofNat 64 (100 * n.sweepInterval.toNat)) }
          port := { (s.ended t).port with
            deficits := Vector.replicate 14 0, position := none, urgentPointer := 0 }
          rw := { s.rw with
            pendingSet := Vector.replicate 24 true, laneUnanswered := 12, drain := .notBegun
            refreshDue := some (s.now + BitVec.ofNat 64 (1000 * n.refreshInterval.toNat))
            queue := s.rw.queue ++ allStreams.filterMap written
              ++ allLanes.map fun k => .laneStatusWrite
                (s.board + BitVec.ofNat 64 (0xA00 + 32 * k.val))
                ⟨(lr k).lock, (lr k).counters, s.now⟩ } }

/-! ### Lane Writers -/

/-- SLOT_READ_DONE: a slot is free when its two sequences are equal, and then binds the frame, on which one
that has ended with nothing staged is decided at once; a held one leads SEEK to the next slot until every slot
has been read, and otherwise ends the search held and lost; a DROPPING writer discards the data. A HALTING
stream whose frame is over has its order retired CUT (R19, R54, R58, R59, R60, R61, R62, R64, R66; that the
binding discards the bytes staged past the page end and marks the frame TRUNCATED is log entry 16). -/
def Obligations.SlotReadBindsOrGoesOn : Prop :=
  ∀ (s : State) (k : Lane) (t : Txn) (address : Addr) (data : Read16), t = .slotRead k address →
    Answers s t → s.working →
    let u := s.ended t
    let run := exec (.slotReadDone k data) s
    let free : Prop := (field data 2 2 : Half) = (field data 0 2 : Half)
    let staged := (s.lr k).staging.bytes
    (∀ (f : FlightFrame) (slot read : Nat) (b : Binding) (halting : Bool) (o : CurrentOrder),
      s.lw k = .searching f slot read true → s.standing f.stream = .bound b (.current halting o) →
      (halting = true → b.lane = k) →
      let size := 256 * 2 ^ o.params.sizeCode
      let o' : CurrentOrder := { o with cursor := slot }
      let x : State := u.setStanding f.stream (.bound b (.current halting o'))
      let place : Placement := ⟨slot, o.params.pageBase + BitVec.ofNat 64 (slot * size), field data 0 2, 0, 0⟩
      (free → f.ended = none ∨ staged ≠ [] →
        run = .next ((x.setLr k
          { s.lr k with staging := { (s.lr k).staging with bytes := staged.take size } }).setLw k
          (.placing { f with truncated := f.truncated || decide (size < staged.length) } place)))
      ∧ (∀ e, free → f.ended = some e → staged = [] →
        ∃ got, run = .next got ∧ EndDecision k x f place e b halting o' got)
      ∧ (¬ free → o.params.policy = .seek → read + 1 < o.params.pageCount →
        run = .next (u.setLw k (.searching f ((slot + 1) % o.params.pageCount) (read + 1) false)))
      ∧ (¬ free → o.params.policy = .strict ∨ o.params.pageCount ≤ read + 1 →
        run = .next (((stopStaging k u).setLw k .idle).frameOver f.stream b halting { o with
          counters := { o.counters with
            held := o.counters.held + 1, lost := o.counters.lost + 1 } })))
    ∧ ∀ d, s.lw k = .dropping d →
      (1 < d.outstanding → run = .next (u.setLw k (.dropping { d with outstanding := d.outstanding - 1 })))
      ∧ (d.outstanding = 1 → d.countLost = false → d.retirement = none →
        (d.disowned = false → ∀ b o, s.standing d.stream ≠ .bound b (.halting o)) →
        run = .next (u.setLw k .idle))
      ∧ (d.outstanding = 1 → d.countLost = false → d.retirement = none → d.disowned = false → ∀ b o,
        s.standing d.stream = .bound b (.halting o) → b.lane = k →
        run = .next ((u.setLw k .idle).frameOver d.stream b true o))

/-- DATA_WRITE_DONE: the write leaves the count. With the last one the frame-end decision is taken: the gate
counts the frame gated or lets its commit go to the Report Writer as the metadata write of its slot; the
same decision, wherever it is taken, waits for the last write. A DROPPING writer with nothing left to await is
IDLE: while its stream's order is current a loss still to be counted is counted, and the frame of a HALTING
stream is over; for a stream FAULTED or forgotten since there is nothing to count, and a FAULT retirement that
waits is handed over. A HALTING stream's gated or lost frame has its order retired CUT (R19, R63, R65, R66, R67,
R68, R87, R154, R156, R159). -/
def Obligations.DataWriteDoneAndTheFrameEnd : Prop :=
  (∀ (s : State) (k : Lane) f p e b halting o, s.working → s.lw k = .closing f p → f.ended = some e →
    s.standing f.stream = .bound b (.current halting o) → (halting = true → b.lane = k) →
    (p.outstanding = 0 → EndDecision k s f p e b halting o (frameDecision k s))
    ∧ (p.outstanding ≠ 0 → frameDecision k s = s))
  ∧ ∀ (s : State) (k : Lane) (t : Txn) (address : Addr) (bytes : List Byte), t = .dataWrite k address bytes →
    Answers s t → s.working →
    let u := s.ended t
    let run := exec (.dataWriteDone k) s
    (∀ f p, s.lw k = .placing f p →
      run = .next (u.setLw k (.placing f { p with outstanding := p.outstanding - 1 })))
    ∧ (∀ f p, s.lw k = .closing f p → f.ended = none ∨ p.outstanding ≠ 1 → p.outstanding ≠ 0 →
      run = .next (u.setLw k (.closing f { p with outstanding := p.outstanding - 1 })))
    ∧ (∀ f p e b halting o, s.lw k = .closing f p → f.ended = some e →
      s.standing f.stream = .bound b (.current halting o) → (halting = true → b.lane = k) →
      p.outstanding = 1 → ∃ got, run = .next got ∧ EndDecision k u f p e b halting o got)
    ∧ ∀ d, s.lw k = .dropping d →
      (1 < d.outstanding → run = .next (u.setLw k (.dropping { d with outstanding := d.outstanding - 1 })))
      ∧ (d.outstanding = 1 → d.disowned = false → d.retirement = none →
        (∀ b halting o, s.standing d.stream = .bound b (.current halting o) → (halting = true → b.lane = k) →
          run = .next ((u.setLw k .idle).frameOver d.stream b halting
            (if d.countLost then o.oneLost else o)))
        ∧ (d.countLost = false → (∀ b o, s.standing d.stream ≠ .bound b (.halting o)) →
          run = .next (u.setLw k .idle)))
      ∧ (d.outstanding = 1 → d.disowned = true ∨ (∃ b c, s.standing d.stream = .bound b (.faulted c)) →
        (d.retirement = none → run = .next (u.setLw k .idle))
        ∧ ∀ a h, d.retirement = some (a, h) →
          run = .next { u.setLw k .idle with rw := { s.rw with
            pendingSet := s.rw.pendingSet.set d.stream.val true
            queue := s.rw.queue ++ [.deviceHalfWrite d.stream d.disowned a h] } })

/-- METADATA_WRITE_DONE makes the fill sequence write, of one more than the fill read at binding.
FILL_WRITE_DONE completes the commit: counters, source numbers, cursor and source frames missed move, the
writer is IDLE, and the completion test, then the progress test, are taken; a HALTING stream's order is
retired either way. A frame abandoned meanwhile, whose writer awaits that one write, gets no fill write and no
commit: the writer is IDLE (R19, R69, R70, R72, R73,
R76, R94, R156; that a HALTING commit makes no progress write is log entry 13). -/
def Obligations.CommitWritesAndCompletion : Prop :=
  ∀ (s : State) (k : Lane) (t : Txn), Answers s t → s.working →
    let u := s.ended t
    (∀ a m f p mb b o, t = .metadataWrite k a m → s.lw k = .committing f p .metadata mb →
      s.standing f.stream = .bound b (.capturing o) ∨ s.standing f.stream = .bound b (.halting o) →
      exec .metadataWriteDone s = .next { u.setLw k (.committing f p .fill mb) with
        rw := { s.rw with queue := s.rw.queue ++ [.fillWrite k
          (o.params.slotTable + BitVec.ofNat 64 (32 * p.slot)) (p.fill + 1)] } })
    ∧ (∀ d, s.lw k = .dropping d → d.outstanding = 1 → d.countLost = false → d.retirement = none →
      (d.disowned = false → ∀ b o, s.standing d.stream ≠ .bound b (.halting o)) →
      (∀ a m, t = .metadataWrite k a m → exec .metadataWriteDone s = .next (u.setLw k .idle))
      ∧ ∀ a v, t = .fillWrite k a v → exec .fillWriteDone s = .next (u.setLw k .idle))
    ∧ ∀ a v f p mb b o, t = .fillWrite k a v → s.lw k = .committing f p .fill mb →
      let n := o.counters
      let counted : Counters := { n with
        committed := n.committed + 1, last := some f.sourceNumber
        first := if n.first = none then some f.sourceNumber else n.first }
      let o' : CurrentOrder := { o with
        counters := counted, cursor := (p.slot + 1) % o.params.pageCount
        commitsSince := o.commitsSince + 1 }
      let moved (x : Phase) (r : Reporter) : State := { (u.setLw k .idle).setCtx f.stream
        { s.ctx f.stream with
          standing := .bound b x, lastSource := some f.sourceNumber
          missed := (s.ctx f.stream).missed + mb.setWidth 32 } with rw := r }
      let wrote (h : DeviceHalf) : Reporter := { s.rw with
        pendingSet := s.rw.pendingSet.set f.stream.val true
        queue := s.rw.queue ++ [.deviceHalfWrite f.stream false o.address h] }
      let retired (x : OrderOutcome) (r : Reason) : DeviceHalf := ⟨x, r, counted, o.acceptTime, s.now⟩
      let link : ResumePoint := .link o.address false
      let counting : Prop := o.params.kind = .count ∧ n.committed + 1 = o.params.target
      let interval := o.params.reportInterval
      (s.standing f.stream = .bound b (.capturing o) →
        (o.params.kind = .single → exec .fillWriteDone s
          = .next (moved (.fetching link) (wrote (retired .done .singleMet))))
        ∧ (counting → exec .fillWriteDone s
          = .next (moved (.fetching link) (wrote (retired .done .countMet))))
        ∧ (o.params.kind ≠ .single → ¬ counting →
          (interval ≠ 0 ∧ o.commitsSince + 1 = interval → exec .fillWriteDone s = .next (moved
            (.capturing { o' with commitsSince := 0 })
            (wrote ⟨.active, .none, counted, o.acceptTime, 0⟩)))
          ∧ (interval = 0 ∨ o.commitsSince + 1 ≠ interval → exec .fillWriteDone s
            = .next (moved (.capturing o') s.rw))))
      ∧ (s.standing f.stream = .bound b (.halting o) →
        (o.params.kind = .single → exec .fillWriteDone s
          = .next (moved (.halted link) (wrote (retired .done .singleMet))))
        ∧ (counting → exec .fillWriteDone s
          = .next (moved (.halted link) (wrote (retired .done .countMet))))
        ∧ (o.params.kind ≠ .single → ¬ counting → exec .fillWriteDone s
          = .next (moved (.halted link) (wrote (retired .cut .haltedInFlight)))))

/-! ### Reports -/

/-- DEVICE_HALF_WRITE_DONE, STREAM_STATUS_WRITE_DONE and LANE_STATUS_WRITE_DONE: a device half that has ended
holds a waiting fetch back no more; the last status write of a publication makes its Summary write with the
next report number; the initial publication's Summary follows its last stream and lane status write; the
last lane status write ends the refresh (R36, R139, R142, R145, R146). -/
def Obligations.StatusWritesDone : Prop :=
  ∀ (s : State) (t : Txn), Answers s t → s.working →
    let u := s.ended t
    let summary (number : Word) (state : SummaryState) : Txn :=
      .summaryWrite (s.board + BitVec.ofNat 64 0xC00) ⟨number, state, s.now⟩
    let deviceState : SummaryState := if s.dc.device = .running then .running else .quiescing
    (∀ st d a h, t = .deviceHalfWrite st d a h →
      (∀ job x n, s.walker.inHand = some ⟨job, .awaitWrites x (n + 1)⟩ →
        exec .deviceHalfWriteDone s = .next (u.setInHand (some ⟨job, .awaitWrites x n⟩)))
      ∧ ((∀ job x n, s.walker.inHand ≠ some ⟨job, .awaitWrites x (n + 1)⟩) →
        exec .deviceHalfWriteDone s = .next u))
    ∧ (∀ a r, t = .streamStatusWrite a r →
      (∀ batch n closing, s.rw.initial = .complete →
        s.rw.publication = some ⟨batch, .status n, closing⟩ →
        (1 < n → exec .streamStatusWriteDone s = .next { u with
          rw := { s.rw with publication := some ⟨batch, .status (n - 1), closing⟩ } })
        ∧ (n = 1 → exec .streamStatusWriteDone s = .next { u with
          rw := { s.rw with
            publication := some ⟨batch, .summary, closing⟩
            queue := s.rw.queue ++ [summary (s.rw.reportNumber + 1) deviceState] } }))
      ∧ ∀ n, s.rw.initial = .pending n false →
        (n = 1 ∧ s.rw.laneUnanswered = 0 → exec .streamStatusWriteDone s = .next { u with
          rw := { s.rw with
            initial := .pending 0 true, queue := s.rw.queue ++ [summary 0 .running] } })
        ∧ (1 < n ∨ (n = 1 ∧ s.rw.laneUnanswered ≠ 0) →
          exec .streamStatusWriteDone s = .next { u with
            rw := { s.rw with initial := .pending (n - 1) false } }))
    ∧ ∀ a r, t = .laneStatusWrite a r →
      (s.rw.initial = .pending 0 false ∧ s.rw.laneUnanswered = 1 →
        exec .laneStatusWriteDone s = .next { u with rw := { s.rw with
          laneUnanswered := 0, initial := .pending 0 true
          queue := s.rw.queue ++ [summary 0 .running] } })
      ∧ (s.rw.initial ≠ .pending 0 false ∨ 1 < s.rw.laneUnanswered →
        exec .laneStatusWriteDone s = .next { u with
          rw := { s.rw with laneUnanswered := s.rw.laneUnanswered - 1 } })

/-- PUBLICATION_BEGIN: with none in progress and the initial publication complete, the ready pending streams
are taken as a batch, in ascending order, out of the pending set, and their status writes made with the next
report number; each takes along the order of the LINK step its record carries; a stream with a device-half
write queued or outstanding, or a retirement waiting, is not ready. Otherwise nothing happens (R137, R139,
R140, R141, R142). -/
def Obligations.PublicationTakesTheReadyStreams : Prop :=
  ∀ (s : State) (batch : List StreamId), s.awake →
    batch = allStreams.filter (fun st => s.isPending st && readyStream s st) →
    (∀ st, readyStream s st = true ↔
      (∀ x ∈ s.rw.queue, x.deviceHalfStream? ≠ some st)
      ∧ (∀ e ∈ s.port.table, e.txn.deviceHalfStream? ≠ some st)
      ∧ ∀ k d, s.lw k = .dropping d → d.retirement ≠ none → d.stream ≠ st)
    ∧ (∀ st a, recordedLink s st = some a ↔ ∃ b ready, s.standing st = .bound b (.fetching (.link a ready))
      ∨ s.standing st = .bound b (.halted (.link a ready)))
    ∧ (s.working → s.rw.publication = none → s.rw.initial = .complete → batch ≠ [] →
      ∃ p, exec .publicationBegin s = .next { s with rw := { s.rw with
          pendingSet := p
          publication := some ⟨batch.map fun st => (st, recordedLink s st), .status batch.length, false⟩
          queue := s.rw.queue ++ batch.map fun st => .streamStatusWrite
            (s.board + BitVec.ofNat 64 (0x400 + 64 * st.val)) ⟨s.ctx st, s.rw.reportNumber + 1⟩ } }
        ∧ ∀ st : StreamId, p[st.val] = (s.isPending st && !batch.contains st))
    ∧ (¬ s.working ∨ s.rw.publication ≠ none ∨ s.rw.initial ≠ .complete ∨ batch = [] →
      exec .publicationBegin s = .next s)

/-- SUMMARY_WRITE_DONE: the publication completes, the report number rises by one, the link step of each
published retirement whose stream still holds it becomes ready and, in RUNNING, has a job unless a job of the
stream is in hand; a LINK job is added for such a stream only, and only where it has no queued job; a closing
publication brings the device to QUIET. The initial publication's leaves the number (R35, R46, R142, R146,
R147; that the next publication begins by its own command is log entry 19, that no LINK job is asked for with
one of the stream's in hand log entry 26, that the link step is matched by its order's address log entry 28,
that the jobs join the tail in the batch's order log entry 35). -/
def Obligations.SummaryCompletesThePublication : Prop :=
  ∀ (s : State) (t : Txn) (address : Addr) (r : Summary), t = .summaryWrite address r → Answers s t →
    s.working →
    (∀ n made, s.rw.initial = .pending n made →
      exec .summaryWriteDone s = .next { s.ended t with rw := { s.rw with initial := .complete } })
    ∧ ∀ p, s.rw.initial = .complete → s.rw.publication = some p → ∃ u, exec .summaryWriteDone s = .next u
      ∧ u = { s.ended t with
          streams := u.streams
          walker := { s.walker with queue := u.walker.queue }
          rw := { s.rw with
            reportNumber := s.rw.reportNumber + 1, publication := none
            drain := if p.closing then .notBegun else s.rw.drain }
          dc := { s.dc with device := if p.closing then .quiet else s.dc.device } }
      ∧ (∃ more, u.walker.queue = s.walker.queue ++ more
        ∧ (s.dc.device ≠ .running → more = [])
        ∧ (more.map Job.stream).Nodup ∧ (more.map Job.stream).Sublist (p.batch.map Prod.fst)
        ∧ ∀ j ∈ more, j.kind = .link
          ∧ (∀ x ∈ s.walker.queue, x.stream ≠ j.stream)
          ∧ (∀ x, s.walker.inHand = some x → x.job.stream ≠ j.stream)
          ∧ ∃ b a ready, (j.stream, some a) ∈ p.batch
            ∧ s.standing j.stream = .bound b (.fetching (.link a ready)))
      ∧ ∀ st, u.ctx st = { s.ctx st with standing := u.standing st }
        ∧ ((∃ b a ready, (st, some a) ∈ p.batch ∧ s.standing st = .bound b (.fetching (.link a ready))
              ∧ u.standing st = .bound b (.fetching (.link a true))
              ∧ (s.dc.device = .running → (∀ x, s.walker.inHand = some x → x.job.stream ≠ st) →
                ∃ j ∈ u.walker.queue, j.stream = st))
          ∨ ((∀ b a ready, (st, some a) ∈ p.batch →
                s.standing st ≠ .bound b (.fetching (.link a ready)))
              ∧ u.standing st = s.standing st))

/-- QUIESCE_POINT, DRAIN_LANE_REFRESH and CLOSING_PUBLICATION take the drain of QUIESCING through its three
steps, each once its condition holds; until then nothing happens (R147, R180; that the initial publication
must be complete too is log entry 20). -/
def Obligations.DrainOfQuiescing : Prop :=
  ∀ s : State, s.awake →
    let idle : Prop := (∀ k, s.lw k = .idle) ∧ s.walker.inHand = none
    let published : Prop := (∀ st, s.isPending st = false) ∧ s.rw.publication = none
      ∧ s.rw.initial = .complete ∧ s.rw.laneUnanswered = 0
    (s.dc.device = .quiescing → s.rw.drain = .notBegun → idle →
      exec .quiescePoint s = .next { s with rw := { s.rw with drain := .publications } })
    ∧ (s.dc.device ≠ .quiescing ∨ s.rw.drain ≠ .notBegun ∨ ¬ idle → exec .quiescePoint s = .next s)
    ∧ (s.dc.device = .quiescing → s.rw.drain = .publications → published →
      exec .drainLaneRefresh s = .next { s with rw := { s.rw with
        drain := .laneRefresh, laneUnanswered := 12
        queue := s.rw.queue ++ allLanes.map fun k => .laneStatusWrite
          (s.board + BitVec.ofNat 64 (0xA00 + 32 * k.val)) ⟨(s.lr k).lock, (s.lr k).counters, s.now⟩ } })
    ∧ (s.dc.device ≠ .quiescing ∨ s.rw.drain ≠ .publications ∨ ¬ published →
      exec .drainLaneRefresh s = .next s)
    ∧ (s.dc.device = .quiescing → s.rw.drain = .laneRefresh → s.rw.laneUnanswered = 0 →
      s.rw.publication = none →
      exec .closingPublication s = .next { s with rw := { s.rw with
        drain := .closing, publication := some ⟨[], .summary, true⟩
        queue := s.rw.queue ++ [.summaryWrite (s.board + BitVec.ofNat 64 0xC00)
          ⟨s.rw.reportNumber + 1, .quiet, s.now⟩] } })
    ∧ (s.dc.device ≠ .quiescing ∨ s.rw.drain ≠ .laneRefresh ∨ s.rw.laneUnanswered ≠ 0
        ∨ s.rw.publication ≠ none → exec .closingPublication s = .next s)

/-! ### Faults -/

/-- SLOT_READ_FAULT, DATA_WRITE_FAULT and COMMIT_WRITE_FAULT on a transaction of the frame in flight: the
frame is counted lost, the stream FAULTED with READ_FAULT or WRITE_FAULT, and the order retired FAULT with
those counters, its write made once the Lane Writer awaits nothing more. On a transaction that a DROPPING
writer awaits, the fault is the frame's, counted lost at most once; a second fault of a FAULTED stream; or
nothing to a stream forgotten since. The lane's staged bytes are discarded, and its offered frame is staged no
more (R58, R60, R62, R65, R71, R90, R106, R109, R152, R154, R158, R159). -/
def Obligations.FrameFaultsRetireTheOrder : Prop :=
  (∀ (k : Lane) (s : State), stopStaging k s = s.setLr k (s.lr k).unstaged)
  ∧ (∀ (s : State) (k : Lane) (t : Txn) (d : DroppedFrame) (c : Instr) (code : FaultCode) (reason : Reason),
    Answers s t → s.working → s.lw k = .dropping d → d.outstanding ≠ 0 →
    (((∃ a, t = .slotRead k a) ∧ c = .slotReadFault k ∧ code = .readFault ∧ reason = .readFault)
      ∨ ((∃ a bytes, t = .dataWrite k a bytes) ∧ c = .dataWriteFault k ∧ code = .writeFault
        ∧ reason = .writeFault)
      ∨ (((∃ a m, t = .metadataWrite k a m) ∨ ∃ a v, t = .fillWrite k a v) ∧ c = .commitWriteFault
        ∧ code = .writeFault ∧ reason = .writeFault)) →
    let st := d.frame.stream
    let pended (x : State) : State :=
      { x with rw := { x.rw with pendingSet := x.rw.pendingSet.set st.val true } }
    let awaits (x : State) (d' : DroppedFrame) : State :=
      if d.outstanding = 1 then (match d'.retirement with
        | none => x.setLw k .idle
        | some r => { x.setLw k .idle with rw := { x.rw with
            pendingSet := x.rw.pendingSet.set st.val true
            queue := x.rw.queue ++ [.deviceHalfWrite st d.disowned r.1 r.2] } })
      else x.setLw k (.dropping { d' with outstanding := d.outstanding - 1 })
    (d.disowned = true → exec c s = .next (awaits (s.ended t) d))
    ∧ (d.disowned = false → ∀ b x, s.standing st = .bound b (.faulted x) →
      exec c s = .next (awaits (pended (s.ended t)) d))
    ∧ (d.disowned = false → ∀ b halting o, s.standing st = .bound b (.current halting o) →
      exec c s = .next (awaits
        (pended ((stopStaging k (s.ended t)).setStanding st (.bound b (.faulted code))))
        { d with
          countLost := false
          retirement := some (o.address, ⟨.fault, reason,
            if d.countLost then o.oneLost.counters else o.counters, o.acceptTime, s.now⟩) })))
  ∧ ∀ (s : State) (k : Lane) (t : Txn) (f : FlightFrame) (b : Binding) (o : CurrentOrder), Answers s t →
    s.working → s.standing f.stream = .bound b (.capturing o) ∨ s.standing f.stream = .bound b (.halting o) →
    let st := f.stream
    let half (r : Reason) : DeviceHalf :=
      ⟨.fault, r, { o.counters with lost := o.counters.lost + 1 }, o.acceptTime, s.now⟩
    let pended : Reporter := { s.rw with pendingSet := s.rw.pendingSet.set st.val true }
    let faulted (code : FaultCode) : State :=
      (stopStaging k (s.ended t)).setStanding st (.bound b (.faulted code))
    let atOnce (code : FaultCode) (r : Reason) : State := { (faulted code).setLw k .idle with
      rw := { pended with queue := s.rw.queue ++ [.deviceHalfWrite st false o.address (half r)] } }
    (∀ a slot read, t = .slotRead k a → s.lw k = .searching f slot read true →
      exec (.slotReadFault k) s = .next (atOnce .readFault .readFault))
    ∧ (∀ a bytes p, t = .dataWrite k a bytes → s.lw k = .placing f p ∨ s.lw k = .closing f p →
      (p.outstanding = 1 → exec (.dataWriteFault k) s = .next (atOnce .writeFault .writeFault))
      ∧ (1 < p.outstanding → exec (.dataWriteFault k) s = .next
        { (faulted .writeFault).setLw k (.dropping ⟨f, some p.slot, p.outstanding - 1, false,
            some (o.address, half .writeFault), false⟩) with rw := pended }))
    ∧ ∀ p stage mb, s.lw k = .committing f p stage mb →
      ((∃ a m, t = .metadataWrite k a m) ∨ ∃ a v, t = .fillWrite k a v) →
      exec .commitWriteFault s = .next (atOnce .writeFault .writeFault)

/-- DEVICE_HALF_WRITE_FAULT faults a stream WRITE_FAULT, abandoning its frame in flight uncounted and ending
the wait of its own fetch step; it is a second fault of a FAULTED stream, and nothing to one forgotten since
the write was made. The Lane Writer of an abandoned frame, in whatever state, awaits what it has outstanding,
the write of a commit among it. ORDER_READ_FAULT faults the stream READ_FAULT with no write to the order (R36,
R38, R47, R152, R153, R155, R156, R158; that the fault of another stream's write only lowers the count of a
waiting fetch is log entry 12, that a dropped frame's count takes in the write of its commit log entry 18). -/
def Obligations.DeviceHalfAndOrderReadFaults : Prop :=
  ∀ (s : State) (t : Txn), Answers s t → s.working →
    let u := s.ended t
    let pended (st : StreamId) : Reporter :=
      { s.rw with pendingSet := s.rw.pendingSet.set st.val true }
    (∀ st a h b p, t = .deviceHalfWrite st false a h → s.standing st = .bound b p →
      (∀ c, p = .faulted c → (∀ job x n, s.walker.inHand ≠ some ⟨job, .awaitWrites x n⟩) →
        exec .deviceHalfWriteFault s = .next { u with rw := pended st })
      ∧ ((∀ c, p ≠ .faulted c) → (s.lw b.lane).stream? ≠ some st →
        ((∀ job x n, s.walker.inHand ≠ some ⟨job, .awaitWrites x n⟩) →
          exec .deviceHalfWriteFault s = .next
            { u.setStanding st (.bound b (.faulted .writeFault)) with rw := pended st })
        ∧ ∀ job x n, s.walker.inHand = some ⟨job, .awaitWrites x (n + 1)⟩ →
          exec .deviceHalfWriteFault s = .next { (u.setInHand (if job.stream = st then none
              else some ⟨job, .awaitWrites x n⟩)).setStanding st (.bound b (.faulted .writeFault)) with
            rw := pended st })
      ∧ ((∀ c, p ≠ .faulted c) → (∀ job x n, s.walker.inHand ≠ some ⟨job, .awaitWrites x n⟩) →
        ∀ f slot n, f.stream = st →
        ((∃ i read issued, s.lw b.lane = .searching f i read issued ∧ slot = none
            ∧ n = if issued then 1 else 0)
          ∨ (∃ q, (s.lw b.lane = .placing f q ∨ s.lw b.lane = .closing f q) ∧ slot = some q.slot
            ∧ n = q.outstanding)
          ∨ (∃ q stage mb, s.lw b.lane = .committing f q stage mb ∧ slot = some q.slot ∧ n = 1)
          ∨ (∃ d, s.lw b.lane = .dropping d ∧ d.disowned = false ∧ f = d.frame ∧ slot = d.slot
            ∧ n = d.outstanding)) →
        exec .deviceHalfWriteFault s = .next { ((stopStaging b.lane u).setStanding st
            (.bound b (.faulted .writeFault))).setLw b.lane
              (if n = 0 then .idle else .dropping ⟨f, slot, n, false, none, false⟩) with
          rw := pended st }))
    ∧ (∀ st a h, t = .deviceHalfWrite st true a h →
      (∀ job x n, s.walker.inHand ≠ some ⟨job, .awaitWrites x n⟩) →
      exec .deviceHalfWriteFault s = .next u)
    ∧ ∀ address job a b, t = .orderRead address → s.walker.inHand = some ⟨job, .orderRead a true⟩ →
      s.standing job.stream = .bound b (.fetching (.fetch a)) →
      exec .orderReadFault s = .next { (u.setInHand none).setStanding job.stream
        (.bound b (.faulted .readFault)) with rw := pended job.stream }

/-- ANCHOR_READ_FAULT and BOARD_WRITE_FAULT in RUNNING and QUIESCING raise BOARD_READ and BOARD_WRITE and
take the device to BROKEN in the same step: frames are abandoned, the walker's queue and the Report Writer's
work dropped, and the contexts, the pending set and the report number stay. In any other state a Board write
fault only ends its transaction (R33, R34, R76, R119, R144, R148, R161, R163, R165; that a writer's count takes
in the write of its commit is log entry 18). -/
def Obligations.BoardFaultsBreakTheDevice : Prop :=
  ∀ (s : State) (t : Txn), Answers s t →
    ((∃ a r, t = .streamStatusWrite a r) ∨ (∃ a r, t = .laneStatusWrite a r)
      ∨ (∃ a r, t = .summaryWrite a r)
      ∨ (∃ a job, t = .anchorRead a ∧ s.walker.inHand = some ⟨job, .anchorRead true⟩)) →
    let run := if t.direction = .read then exec .anchorReadFault s else exec .boardWriteFault s
    let u := s.ended t
    (s.working → ∃ v, run = .next v
      ∧ v.dc = { s.dc with
          device := .broken
          cause := raisedCause s.dc.cause (if t.direction = .read then 1#4 else 2#4) }
      ∧ v.streams = s.streams ∧ v.port = u.port
      ∧ v.walker.queue = [] ∧ v.walker.sweepDue = none
      ∧ (∀ j, t.direction = .write → s.walker.inHand = some j →
          v.walker.inHand = if j.stage.readIssued then some j else none)
      ∧ (t.direction = .read → v.walker.inHand = none)
      ∧ v.pending = s.pending ∧ v.freeIndex = s.freeIndex
      ∧ v.rw = { s.rw with publication := none, queue := [], laneUnanswered := 0, refreshDue := none }
      ∧ (∀ k, v.lr k = (s.lr k).givenUp)
      ∧ ∀ k, (s.lw k = .idle ∨ laneOutstanding k u = 0 → v.lw k = .idle)
          ∧ (s.lw k ≠ .idle → laneOutstanding k u ≠ 0 → ∃ d, v.lw k = .dropping d
              ∧ d.outstanding = laneOutstanding k u ∧ d.countLost = false ∧ d.retirement = none))
    ∧ (¬ s.working → t.direction = .write → run = .next u)

/-! ### Laws that every step keeps -/

/-- R123: outstanding writes never exceed 16 and outstanding reads never exceed 4. -/
def Obligations.EveryStepKeepsThePortLimits : Prop :=
  ∀ s s' : State, PortLimits s → step s = .next s' → PortLimits s'

/-- R107: no lane's staging holds more than 4096 bytes or more than 64 chunks. R96 to R98: an IDLE run stays
below 32 and a violation count below 4, and no frame is open without lock. -/
def Obligations.EveryStepKeepsTheReceiversInRange : Prop :=
  ∀ s s' : State, (StagingFits s ∧ LockLaw s) → step s = .next s' → StagingFits s' ∧ LockLaw s'

/-- R3: at most one non-IDLE stream is bound to any one (lane, tag) pair. R30: no two queued jobs name the
same stream, so that the walker queue holds at most 24. R120: the Report Writer's queue holds its own
transactions only. -/
def Obligations.EveryStepKeepsTheBindingAndQueueLaws : Prop :=
  (∀ s s' : State, BindingLaw s → step s = .next s' → BindingLaw s')
  ∧ (∀ s s' : State, QueueLaw s → step s = .next s' → QueueLaw s')
  ∧ (∀ s s' : State, ReporterLaw s → step s = .next s' → ReporterLaw s')
  ∧ ∀ s, QueueLaw s → s.walker.queue.length ≤ 24

/-- R171: bits 11 to 0 of the Board address stay 0. R173, R182: OFF holds no snapshot, RUNNING, QUIESCING and
QUIET hold one, and LOADING holds one exactly when it came from QUIET. -/
def Obligations.EveryStepKeepsTheBoardAndSnapshotLaws : Prop :=
  (∀ s s' : State, BoardAligned s → step s = .next s' → BoardAligned s')
  ∧ ∀ s s' : State, SnapshotLaw s → step s = .next s' → SnapshotLaw s'

/-- R75, R180 to R182: from the quiesce point on every Lane Writer is IDLE, and in QUIET, OFF and LOADING
too. R34, R147, R181: no job is queued from QUIESCE on and none is in hand from the quiesce point on; and from
the drain's lane refresh on, and in QUIET, the pending set is empty. R138, R139: outside RESETTING and BROKEN, a
stream with a device-half write queued or outstanding is pending. R34, R36, R56, R136, R181: outside RESETTING
and BROKEN no transaction is queued or outstanding that nothing awaits; so in QUIET none is, and STATE shows an
outstanding count of 0. -/
def Obligations.EveryStepKeepsTheQuietLaw : Prop :=
  (∀ s s' : State, QuietLaw s → step s = .next s' → QuietLaw s')
  ∧ (∀ s s' : State, QuietLaw s → DrainedLaw s → step s = .next s' → DrainedLaw s')
  ∧ (∀ s s' : State, QuietLaw s → DrainedLaw s → ReporterLaw s → LedgerLaw s → step s = .next s' →
    LedgerLaw s')
  ∧ ∀ s, LedgerLaw s → s.dc.device = .quiet →
    s.port.table = [] ∧ s.rw.queue = [] ∧ (readRegister 0x08#5 s).toNat / 65536 = 0

/-- R90, R91: while the part counts frames, met equals thinned + gated + lost + committed in every current
order, and one more exactly while the stream has a frame in flight that is counted in no class yet. R91: held
does not exceed lost in any current order, while the 32-bit counts do not wrap (R29): from a state in which no
lost count stands at its last value. -/
def Obligations.EveryStepKeepsTheCountersBalanced : Prop :=
  (∀ s s' : State, QuietLaw s → FrameLaw s → step s = .next s' → FrameLaw s')
  ∧ ∀ s s' : State, HeldLaw s → (∀ st o, s.order? st = some o → o.counters.lost.toNat < 4294967295) →
    step s = .next s' → HeldLaw s'

/-- The laws hold after reset. -/
def Obligations.LawsHoldAfterReset : Prop :=
  PortLimits State.reset ∧ StagingFits State.reset ∧ LockLaw State.reset ∧ BindingLaw State.reset
  ∧ QueueLaw State.reset ∧ ReporterLaw State.reset ∧ BoardAligned State.reset ∧ SnapshotLaw State.reset
  ∧ QuietLaw State.reset ∧ DrainedLaw State.reset ∧ LedgerLaw State.reset ∧ FrameLaw State.reset
  ∧ HeldLaw State.reset
end

