-- ==== Sys2Proof/Laws/State.lean ====
section
/-! SUPPORT. One lemma per field per named update of the state, true by definition. -/

namespace Sys2Proof.Machine

variable (s : State)

/-! ### setCtx -/

@[simp] theorem setCtx_pending (st : StreamId) (c : Context) : (s.setCtx st c).pending = s.pending := rfl
@[simp] theorem setCtx_dc (st : StreamId) (c : Context) : (s.setCtx st c).dc = s.dc := rfl
@[simp] theorem setCtx_walker (st : StreamId) (c : Context) : (s.setCtx st c).walker = s.walker := rfl
@[simp] theorem setCtx_receivers (st : StreamId) (c : Context) : (s.setCtx st c).receivers = s.receivers := rfl
@[simp] theorem setCtx_writers (st : StreamId) (c : Context) : (s.setCtx st c).writers = s.writers := rfl
@[simp] theorem setCtx_rw (st : StreamId) (c : Context) : (s.setCtx st c).rw = s.rw := rfl
@[simp] theorem setCtx_port (st : StreamId) (c : Context) : (s.setCtx st c).port = s.port := rfl
@[simp] theorem setCtx_freeIndex (st : StreamId) (c : Context) : (s.setCtx st c).freeIndex = s.freeIndex := rfl
@[simp] theorem setCtx_lr (st : StreamId) (c : Context) (y : Lane) : (s.setCtx st c).lr y = s.lr y := rfl
@[simp] theorem setCtx_lw (st : StreamId) (c : Context) (y : Lane) : (s.setCtx st c).lw y = s.lw y := rfl

/-! ### setStanding -/

@[simp] theorem setStanding_pending (st : StreamId) (x : Standing) : (s.setStanding st x).pending = s.pending := rfl
@[simp] theorem setStanding_dc (st : StreamId) (x : Standing) : (s.setStanding st x).dc = s.dc := rfl
@[simp] theorem setStanding_walker (st : StreamId) (x : Standing) : (s.setStanding st x).walker = s.walker := rfl
@[simp] theorem setStanding_receivers (st : StreamId) (x : Standing) : (s.setStanding st x).receivers = s.receivers := rfl
@[simp] theorem setStanding_writers (st : StreamId) (x : Standing) : (s.setStanding st x).writers = s.writers := rfl
@[simp] theorem setStanding_rw (st : StreamId) (x : Standing) : (s.setStanding st x).rw = s.rw := rfl
@[simp] theorem setStanding_port (st : StreamId) (x : Standing) : (s.setStanding st x).port = s.port := rfl
@[simp] theorem setStanding_freeIndex (st : StreamId) (x : Standing) : (s.setStanding st x).freeIndex = s.freeIndex := rfl
@[simp] theorem setStanding_lr (st : StreamId) (x : Standing) (y : Lane) : (s.setStanding st x).lr y = s.lr y := rfl
@[simp] theorem setStanding_lw (st : StreamId) (x : Standing) (y : Lane) : (s.setStanding st x).lw y = s.lw y := rfl

/-! ### setLr -/

@[simp] theorem setLr_pending (k : Lane) (r : Receiver) : (s.setLr k r).pending = s.pending := rfl
@[simp] theorem setLr_dc (k : Lane) (r : Receiver) : (s.setLr k r).dc = s.dc := rfl
@[simp] theorem setLr_streams (k : Lane) (r : Receiver) : (s.setLr k r).streams = s.streams := rfl
@[simp] theorem setLr_walker (k : Lane) (r : Receiver) : (s.setLr k r).walker = s.walker := rfl
@[simp] theorem setLr_writers (k : Lane) (r : Receiver) : (s.setLr k r).writers = s.writers := rfl
@[simp] theorem setLr_rw (k : Lane) (r : Receiver) : (s.setLr k r).rw = s.rw := rfl
@[simp] theorem setLr_port (k : Lane) (r : Receiver) : (s.setLr k r).port = s.port := rfl
@[simp] theorem setLr_freeIndex (k : Lane) (r : Receiver) : (s.setLr k r).freeIndex = s.freeIndex := rfl
@[simp] theorem setLr_ctx (k : Lane) (r : Receiver) (x : StreamId) : (s.setLr k r).ctx x = s.ctx x := rfl
@[simp] theorem setLr_standing (k : Lane) (r : Receiver) (x : StreamId) : (s.setLr k r).standing x = s.standing x := rfl
@[simp] theorem setLr_order (k : Lane) (r : Receiver) (x : StreamId) : (s.setLr k r).order? x = s.order? x := rfl
@[simp] theorem setLr_lw (k : Lane) (r : Receiver) (y : Lane) : (s.setLr k r).lw y = s.lw y := rfl

/-! ### setLw -/

@[simp] theorem setLw_pending (k : Lane) (w : Writer) : (s.setLw k w).pending = s.pending := rfl
@[simp] theorem setLw_dc (k : Lane) (w : Writer) : (s.setLw k w).dc = s.dc := rfl
@[simp] theorem setLw_streams (k : Lane) (w : Writer) : (s.setLw k w).streams = s.streams := rfl
@[simp] theorem setLw_walker (k : Lane) (w : Writer) : (s.setLw k w).walker = s.walker := rfl
@[simp] theorem setLw_receivers (k : Lane) (w : Writer) : (s.setLw k w).receivers = s.receivers := rfl
@[simp] theorem setLw_rw (k : Lane) (w : Writer) : (s.setLw k w).rw = s.rw := rfl
@[simp] theorem setLw_port (k : Lane) (w : Writer) : (s.setLw k w).port = s.port := rfl
@[simp] theorem setLw_freeIndex (k : Lane) (w : Writer) : (s.setLw k w).freeIndex = s.freeIndex := rfl
@[simp] theorem setLw_ctx (k : Lane) (w : Writer) (x : StreamId) : (s.setLw k w).ctx x = s.ctx x := rfl
@[simp] theorem setLw_standing (k : Lane) (w : Writer) (x : StreamId) : (s.setLw k w).standing x = s.standing x := rfl
@[simp] theorem setLw_order (k : Lane) (w : Writer) (x : StreamId) : (s.setLw k w).order? x = s.order? x := rfl
@[simp] theorem setLw_lr (k : Lane) (w : Writer) (y : Lane) : (s.setLw k w).lr y = s.lr y := rfl

/-! ### setDevice -/

@[simp] theorem setDevice_pending (d : DeviceState) : (s.setDevice d).pending = s.pending := rfl
@[simp] theorem setDevice_streams (d : DeviceState) : (s.setDevice d).streams = s.streams := rfl
@[simp] theorem setDevice_walker (d : DeviceState) : (s.setDevice d).walker = s.walker := rfl
@[simp] theorem setDevice_receivers (d : DeviceState) : (s.setDevice d).receivers = s.receivers := rfl
@[simp] theorem setDevice_writers (d : DeviceState) : (s.setDevice d).writers = s.writers := rfl
@[simp] theorem setDevice_rw (d : DeviceState) : (s.setDevice d).rw = s.rw := rfl
@[simp] theorem setDevice_port (d : DeviceState) : (s.setDevice d).port = s.port := rfl
@[simp] theorem setDevice_freeIndex (d : DeviceState) : (s.setDevice d).freeIndex = s.freeIndex := rfl
@[simp] theorem setDevice_ctx (d : DeviceState) (x : StreamId) : (s.setDevice d).ctx x = s.ctx x := rfl
@[simp] theorem setDevice_standing (d : DeviceState) (x : StreamId) : (s.setDevice d).standing x = s.standing x := rfl
@[simp] theorem setDevice_order (d : DeviceState) (x : StreamId) : (s.setDevice d).order? x = s.order? x := rfl
@[simp] theorem setDevice_lr (d : DeviceState) (y : Lane) : (s.setDevice d).lr y = s.lr y := rfl
@[simp] theorem setDevice_lw (d : DeviceState) (y : Lane) : (s.setDevice d).lw y = s.lw y := rfl

/-! ### setResult -/

@[simp] theorem setResult_pending (r : CommandResult) : (s.setResult r).pending = s.pending := rfl
@[simp] theorem setResult_streams (r : CommandResult) : (s.setResult r).streams = s.streams := rfl
@[simp] theorem setResult_walker (r : CommandResult) : (s.setResult r).walker = s.walker := rfl
@[simp] theorem setResult_receivers (r : CommandResult) : (s.setResult r).receivers = s.receivers := rfl
@[simp] theorem setResult_writers (r : CommandResult) : (s.setResult r).writers = s.writers := rfl
@[simp] theorem setResult_rw (r : CommandResult) : (s.setResult r).rw = s.rw := rfl
@[simp] theorem setResult_port (r : CommandResult) : (s.setResult r).port = s.port := rfl
@[simp] theorem setResult_freeIndex (r : CommandResult) : (s.setResult r).freeIndex = s.freeIndex := rfl
@[simp] theorem setResult_ctx (r : CommandResult) (x : StreamId) : (s.setResult r).ctx x = s.ctx x := rfl
@[simp] theorem setResult_standing (r : CommandResult) (x : StreamId) : (s.setResult r).standing x = s.standing x := rfl
@[simp] theorem setResult_order (r : CommandResult) (x : StreamId) : (s.setResult r).order? x = s.order? x := rfl
@[simp] theorem setResult_lr (r : CommandResult) (y : Lane) : (s.setResult r).lr y = s.lr y := rfl
@[simp] theorem setResult_lw (r : CommandResult) (y : Lane) : (s.setResult r).lw y = s.lw y := rfl

/-! ### setInHand -/

@[simp] theorem setInHand_pending (j : Option JobInHand) : (s.setInHand j).pending = s.pending := rfl
@[simp] theorem setInHand_dc (j : Option JobInHand) : (s.setInHand j).dc = s.dc := rfl
@[simp] theorem setInHand_streams (j : Option JobInHand) : (s.setInHand j).streams = s.streams := rfl
@[simp] theorem setInHand_receivers (j : Option JobInHand) : (s.setInHand j).receivers = s.receivers := rfl
@[simp] theorem setInHand_writers (j : Option JobInHand) : (s.setInHand j).writers = s.writers := rfl
@[simp] theorem setInHand_rw (j : Option JobInHand) : (s.setInHand j).rw = s.rw := rfl
@[simp] theorem setInHand_port (j : Option JobInHand) : (s.setInHand j).port = s.port := rfl
@[simp] theorem setInHand_freeIndex (j : Option JobInHand) : (s.setInHand j).freeIndex = s.freeIndex := rfl
@[simp] theorem setInHand_ctx (j : Option JobInHand) (x : StreamId) : (s.setInHand j).ctx x = s.ctx x := rfl
@[simp] theorem setInHand_standing (j : Option JobInHand) (x : StreamId) : (s.setInHand j).standing x = s.standing x := rfl
@[simp] theorem setInHand_order (j : Option JobInHand) (x : StreamId) : (s.setInHand j).order? x = s.order? x := rfl
@[simp] theorem setInHand_lr (j : Option JobInHand) (y : Lane) : (s.setInHand j).lr y = s.lr y := rfl
@[simp] theorem setInHand_lw (j : Option JobInHand) (y : Lane) : (s.setInHand j).lw y = s.lw y := rfl

/-! ### enqueue -/

@[simp] theorem enqueue_pending (t : Txn) : (enqueue t s).pending = s.pending := rfl
@[simp] theorem enqueue_dc (t : Txn) : (enqueue t s).dc = s.dc := rfl
@[simp] theorem enqueue_streams (t : Txn) : (enqueue t s).streams = s.streams := rfl
@[simp] theorem enqueue_walker (t : Txn) : (enqueue t s).walker = s.walker := rfl
@[simp] theorem enqueue_receivers (t : Txn) : (enqueue t s).receivers = s.receivers := rfl
@[simp] theorem enqueue_writers (t : Txn) : (enqueue t s).writers = s.writers := rfl
@[simp] theorem enqueue_port (t : Txn) : (enqueue t s).port = s.port := rfl
@[simp] theorem enqueue_freeIndex (t : Txn) : (enqueue t s).freeIndex = s.freeIndex := rfl
@[simp] theorem enqueue_ctx (t : Txn) (x : StreamId) : (enqueue t s).ctx x = s.ctx x := rfl
@[simp] theorem enqueue_standing (t : Txn) (x : StreamId) : (enqueue t s).standing x = s.standing x := rfl
@[simp] theorem enqueue_order (t : Txn) (x : StreamId) : (enqueue t s).order? x = s.order? x := rfl
@[simp] theorem enqueue_lr (t : Txn) (y : Lane) : (enqueue t s).lr y = s.lr y := rfl
@[simp] theorem enqueue_lw (t : Txn) (y : Lane) : (enqueue t s).lw y = s.lw y := rfl

/-! ### enqueueAll -/

@[simp] theorem enqueueAll_pending (ts : List Txn) : (enqueueAll ts s).pending = s.pending := rfl
@[simp] theorem enqueueAll_dc (ts : List Txn) : (enqueueAll ts s).dc = s.dc := rfl
@[simp] theorem enqueueAll_streams (ts : List Txn) : (enqueueAll ts s).streams = s.streams := rfl
@[simp] theorem enqueueAll_walker (ts : List Txn) : (enqueueAll ts s).walker = s.walker := rfl
@[simp] theorem enqueueAll_receivers (ts : List Txn) : (enqueueAll ts s).receivers = s.receivers := rfl
@[simp] theorem enqueueAll_writers (ts : List Txn) : (enqueueAll ts s).writers = s.writers := rfl
@[simp] theorem enqueueAll_port (ts : List Txn) : (enqueueAll ts s).port = s.port := rfl
@[simp] theorem enqueueAll_freeIndex (ts : List Txn) : (enqueueAll ts s).freeIndex = s.freeIndex := rfl
@[simp] theorem enqueueAll_ctx (ts : List Txn) (x : StreamId) : (enqueueAll ts s).ctx x = s.ctx x := rfl
@[simp] theorem enqueueAll_standing (ts : List Txn) (x : StreamId) : (enqueueAll ts s).standing x = s.standing x := rfl
@[simp] theorem enqueueAll_order (ts : List Txn) (x : StreamId) : (enqueueAll ts s).order? x = s.order? x := rfl
@[simp] theorem enqueueAll_lr (ts : List Txn) (y : Lane) : (enqueueAll ts s).lr y = s.lr y := rfl
@[simp] theorem enqueueAll_lw (ts : List Txn) (y : Lane) : (enqueueAll ts s).lw y = s.lw y := rfl

/-! ### mapOrder -/

@[simp] theorem mapOrder_pending (st : StreamId) (f : CurrentOrder → CurrentOrder) : (mapOrder st f s).pending = s.pending := rfl
@[simp] theorem mapOrder_dc (st : StreamId) (f : CurrentOrder → CurrentOrder) : (mapOrder st f s).dc = s.dc := rfl
@[simp] theorem mapOrder_walker (st : StreamId) (f : CurrentOrder → CurrentOrder) : (mapOrder st f s).walker = s.walker := rfl
@[simp] theorem mapOrder_receivers (st : StreamId) (f : CurrentOrder → CurrentOrder) : (mapOrder st f s).receivers = s.receivers := rfl
@[simp] theorem mapOrder_writers (st : StreamId) (f : CurrentOrder → CurrentOrder) : (mapOrder st f s).writers = s.writers := rfl
@[simp] theorem mapOrder_rw (st : StreamId) (f : CurrentOrder → CurrentOrder) : (mapOrder st f s).rw = s.rw := rfl
@[simp] theorem mapOrder_port (st : StreamId) (f : CurrentOrder → CurrentOrder) : (mapOrder st f s).port = s.port := rfl
@[simp] theorem mapOrder_freeIndex (st : StreamId) (f : CurrentOrder → CurrentOrder) : (mapOrder st f s).freeIndex = s.freeIndex := rfl
@[simp] theorem mapOrder_lr (st : StreamId) (f : CurrentOrder → CurrentOrder) (y : Lane) : (mapOrder st f s).lr y = s.lr y := rfl
@[simp] theorem mapOrder_lw (st : StreamId) (f : CurrentOrder → CurrentOrder) (y : Lane) : (mapOrder st f s).lw y = s.lw y := rfl

/-! ### count -/

@[simp] theorem count_pending (st : StreamId) (f : Counters → Counters) : (count st f s).pending = s.pending := rfl
@[simp] theorem count_dc (st : StreamId) (f : Counters → Counters) : (count st f s).dc = s.dc := rfl
@[simp] theorem count_walker (st : StreamId) (f : Counters → Counters) : (count st f s).walker = s.walker := rfl
@[simp] theorem count_receivers (st : StreamId) (f : Counters → Counters) : (count st f s).receivers = s.receivers := rfl
@[simp] theorem count_writers (st : StreamId) (f : Counters → Counters) : (count st f s).writers = s.writers := rfl
@[simp] theorem count_rw (st : StreamId) (f : Counters → Counters) : (count st f s).rw = s.rw := rfl
@[simp] theorem count_port (st : StreamId) (f : Counters → Counters) : (count st f s).port = s.port := rfl
@[simp] theorem count_freeIndex (st : StreamId) (f : Counters → Counters) : (count st f s).freeIndex = s.freeIndex := rfl
@[simp] theorem count_lr (st : StreamId) (f : Counters → Counters) (y : Lane) : (count st f s).lr y = s.lr y := rfl
@[simp] theorem count_lw (st : StreamId) (f : Counters → Counters) (y : Lane) : (count st f s).lw y = s.lw y := rfl

/-! ### attend -/

@[simp] theorem attend_pending (st : StreamId) : (attend st s).pending = s.pending := rfl
@[simp] theorem attend_dc (st : StreamId) : (attend st s).dc = s.dc := rfl
@[simp] theorem attend_streams (st : StreamId) : (attend st s).streams = s.streams := rfl
@[simp] theorem attend_receivers (st : StreamId) : (attend st s).receivers = s.receivers := rfl
@[simp] theorem attend_writers (st : StreamId) : (attend st s).writers = s.writers := rfl
@[simp] theorem attend_rw (st : StreamId) : (attend st s).rw = s.rw := rfl
@[simp] theorem attend_port (st : StreamId) : (attend st s).port = s.port := rfl
@[simp] theorem attend_freeIndex (st : StreamId) : (attend st s).freeIndex = s.freeIndex := rfl
@[simp] theorem attend_ctx (st : StreamId) (x : StreamId) : (attend st s).ctx x = s.ctx x := rfl
@[simp] theorem attend_standing (st : StreamId) (x : StreamId) : (attend st s).standing x = s.standing x := rfl
@[simp] theorem attend_order (st : StreamId) (x : StreamId) : (attend st s).order? x = s.order? x := rfl
@[simp] theorem attend_lr (st : StreamId) (y : Lane) : (attend st s).lr y = s.lr y := rfl
@[simp] theorem attend_lw (st : StreamId) (y : Lane) : (attend st s).lw y = s.lw y := rfl

/-! ### handHalf -/

@[simp] theorem handHalf_pending (st : StreamId) (a : Addr) (h : DeviceHalf) : (handHalf st a h s).pending = s.pending := rfl
@[simp] theorem handHalf_dc (st : StreamId) (a : Addr) (h : DeviceHalf) : (handHalf st a h s).dc = s.dc := rfl
@[simp] theorem handHalf_streams (st : StreamId) (a : Addr) (h : DeviceHalf) : (handHalf st a h s).streams = s.streams := rfl
@[simp] theorem handHalf_walker (st : StreamId) (a : Addr) (h : DeviceHalf) : (handHalf st a h s).walker = s.walker := rfl
@[simp] theorem handHalf_receivers (st : StreamId) (a : Addr) (h : DeviceHalf) : (handHalf st a h s).receivers = s.receivers := rfl
@[simp] theorem handHalf_writers (st : StreamId) (a : Addr) (h : DeviceHalf) : (handHalf st a h s).writers = s.writers := rfl
@[simp] theorem handHalf_port (st : StreamId) (a : Addr) (h : DeviceHalf) : (handHalf st a h s).port = s.port := rfl
@[simp] theorem handHalf_freeIndex (st : StreamId) (a : Addr) (h : DeviceHalf) : (handHalf st a h s).freeIndex = s.freeIndex := rfl
@[simp] theorem handHalf_ctx (st : StreamId) (a : Addr) (h : DeviceHalf) (x : StreamId) : (handHalf st a h s).ctx x = s.ctx x := rfl
@[simp] theorem handHalf_standing (st : StreamId) (a : Addr) (h : DeviceHalf) (x : StreamId) : (handHalf st a h s).standing x = s.standing x := rfl
@[simp] theorem handHalf_order (st : StreamId) (a : Addr) (h : DeviceHalf) (x : StreamId) : (handHalf st a h s).order? x = s.order? x := rfl
@[simp] theorem handHalf_lr (st : StreamId) (a : Addr) (h : DeviceHalf) (y : Lane) : (handHalf st a h s).lr y = s.lr y := rfl
@[simp] theorem handHalf_lw (st : StreamId) (a : Addr) (h : DeviceHalf) (y : Lane) : (handHalf st a h s).lw y = s.lw y := rfl

/-! ### removeOldest -/

@[simp] theorem removeOldest_pending (c : Client) (d : Direction) : (removeOldest c d s).pending = s.pending := rfl
@[simp] theorem removeOldest_dc (c : Client) (d : Direction) : (removeOldest c d s).dc = s.dc := rfl
@[simp] theorem removeOldest_streams (c : Client) (d : Direction) : (removeOldest c d s).streams = s.streams := rfl
@[simp] theorem removeOldest_walker (c : Client) (d : Direction) : (removeOldest c d s).walker = s.walker := rfl
@[simp] theorem removeOldest_receivers (c : Client) (d : Direction) : (removeOldest c d s).receivers = s.receivers := rfl
@[simp] theorem removeOldest_writers (c : Client) (d : Direction) : (removeOldest c d s).writers = s.writers := rfl
@[simp] theorem removeOldest_rw (c : Client) (d : Direction) : (removeOldest c d s).rw = s.rw := rfl
@[simp] theorem removeOldest_freeIndex (c : Client) (d : Direction) : (removeOldest c d s).freeIndex = s.freeIndex := rfl
@[simp] theorem removeOldest_ctx (c : Client) (d : Direction) (x : StreamId) : (removeOldest c d s).ctx x = s.ctx x := rfl
@[simp] theorem removeOldest_standing (c : Client) (d : Direction) (x : StreamId) : (removeOldest c d s).standing x = s.standing x := rfl
@[simp] theorem removeOldest_order (c : Client) (d : Direction) (x : StreamId) : (removeOldest c d s).order? x = s.order? x := rfl
@[simp] theorem removeOldest_lr (c : Client) (d : Direction) (y : Lane) : (removeOldest c d s).lr y = s.lr y := rfl
@[simp] theorem removeOldest_lw (c : Client) (d : Direction) (y : Lane) : (removeOldest c d s).lw y = s.lw y := rfl

/-! ### stopStaging -/

@[simp] theorem stopStaging_pending (k : Lane) : (stopStaging k s).pending = s.pending := rfl
@[simp] theorem stopStaging_dc (k : Lane) : (stopStaging k s).dc = s.dc := rfl
@[simp] theorem stopStaging_streams (k : Lane) : (stopStaging k s).streams = s.streams := rfl
@[simp] theorem stopStaging_walker (k : Lane) : (stopStaging k s).walker = s.walker := rfl
@[simp] theorem stopStaging_writers (k : Lane) : (stopStaging k s).writers = s.writers := rfl
@[simp] theorem stopStaging_rw (k : Lane) : (stopStaging k s).rw = s.rw := rfl
@[simp] theorem stopStaging_port (k : Lane) : (stopStaging k s).port = s.port := rfl
@[simp] theorem stopStaging_freeIndex (k : Lane) : (stopStaging k s).freeIndex = s.freeIndex := rfl
@[simp] theorem stopStaging_ctx (k : Lane) (x : StreamId) : (stopStaging k s).ctx x = s.ctx x := rfl
@[simp] theorem stopStaging_standing (k : Lane) (x : StreamId) : (stopStaging k s).standing x = s.standing x := rfl
@[simp] theorem stopStaging_order (k : Lane) (x : StreamId) : (stopStaging k s).order? x = s.order? x := rfl
@[simp] theorem stopStaging_lw (k : Lane) (y : Lane) : (stopStaging k s).lw y = s.lw y := rfl

/-! ### onLr -/

@[simp] theorem onLr_pending (k : Lane) (f : Receiver → Receiver) : (onLr k f s).pending = s.pending := rfl
@[simp] theorem onLr_dc (k : Lane) (f : Receiver → Receiver) : (onLr k f s).dc = s.dc := rfl
@[simp] theorem onLr_streams (k : Lane) (f : Receiver → Receiver) : (onLr k f s).streams = s.streams := rfl
@[simp] theorem onLr_walker (k : Lane) (f : Receiver → Receiver) : (onLr k f s).walker = s.walker := rfl
@[simp] theorem onLr_writers (k : Lane) (f : Receiver → Receiver) : (onLr k f s).writers = s.writers := rfl
@[simp] theorem onLr_rw (k : Lane) (f : Receiver → Receiver) : (onLr k f s).rw = s.rw := rfl
@[simp] theorem onLr_port (k : Lane) (f : Receiver → Receiver) : (onLr k f s).port = s.port := rfl
@[simp] theorem onLr_freeIndex (k : Lane) (f : Receiver → Receiver) : (onLr k f s).freeIndex = s.freeIndex := rfl
@[simp] theorem onLr_ctx (k : Lane) (f : Receiver → Receiver) (x : StreamId) : (onLr k f s).ctx x = s.ctx x := rfl
@[simp] theorem onLr_standing (k : Lane) (f : Receiver → Receiver) (x : StreamId) : (onLr k f s).standing x = s.standing x := rfl
@[simp] theorem onLr_order (k : Lane) (f : Receiver → Receiver) (x : StreamId) : (onLr k f s).order? x = s.order? x := rfl
@[simp] theorem onLr_lw (k : Lane) (f : Receiver → Receiver) (y : Lane) : (onLr k f s).lw y = s.lw y := rfl

/-! ### raiseCause -/

@[simp] theorem raiseCause_pending (bit : BitVec 4) : (raiseCause bit s).pending = s.pending := rfl
@[simp] theorem raiseCause_streams (bit : BitVec 4) : (raiseCause bit s).streams = s.streams := rfl
@[simp] theorem raiseCause_walker (bit : BitVec 4) : (raiseCause bit s).walker = s.walker := rfl
@[simp] theorem raiseCause_receivers (bit : BitVec 4) : (raiseCause bit s).receivers = s.receivers := rfl
@[simp] theorem raiseCause_writers (bit : BitVec 4) : (raiseCause bit s).writers = s.writers := rfl
@[simp] theorem raiseCause_rw (bit : BitVec 4) : (raiseCause bit s).rw = s.rw := rfl
@[simp] theorem raiseCause_port (bit : BitVec 4) : (raiseCause bit s).port = s.port := rfl
@[simp] theorem raiseCause_freeIndex (bit : BitVec 4) : (raiseCause bit s).freeIndex = s.freeIndex := rfl
@[simp] theorem raiseCause_ctx (bit : BitVec 4) (x : StreamId) : (raiseCause bit s).ctx x = s.ctx x := rfl
@[simp] theorem raiseCause_standing (bit : BitVec 4) (x : StreamId) : (raiseCause bit s).standing x = s.standing x := rfl
@[simp] theorem raiseCause_order (bit : BitVec 4) (x : StreamId) : (raiseCause bit s).order? x = s.order? x := rfl
@[simp] theorem raiseCause_lr (bit : BitVec 4) (y : Lane) : (raiseCause bit s).lr y = s.lr y := rfl
@[simp] theorem raiseCause_lw (bit : BitVec 4) (y : Lane) : (raiseCause bit s).lw y = s.lw y := rfl

/-! ### What an update puts in place -/

@[simp] theorem ctx_setCtx (st : StreamId) (c : Context) : (s.setCtx st c).ctx st = c := by
  simp [State.setCtx, State.ctx]

theorem ctx_setCtx_ne {st x : StreamId} (h : x ≠ st) (c : Context) : (s.setCtx st c).ctx x = s.ctx x := by
  have h' : st.val ≠ x.val := fun e => h (Fin.ext e.symm)
  simp [State.setCtx, State.ctx, h']

@[simp] theorem lr_setLr (k : Lane) (r : Receiver) : (s.setLr k r).lr k = r := by
  simp [State.setLr, State.lr]

theorem lr_setLr_ne {k j : Lane} (h : j ≠ k) (r : Receiver) : (s.setLr k r).lr j = s.lr j := by
  have h' : k.val ≠ j.val := fun e => h (Fin.ext e.symm)
  simp [State.setLr, State.lr, h']

@[simp] theorem lw_setLw (k : Lane) (w : Writer) : (s.setLw k w).lw k = w := by
  simp [State.setLw, State.lw]

theorem lw_setLw_ne {k j : Lane} (h : j ≠ k) (w : Writer) : (s.setLw k w).lw j = s.lw j := by
  have h' : k.val ≠ j.val := fun e => h (Fin.ext e.symm)
  simp [State.setLw, State.lw, h']

@[simp] theorem standing_setStanding (st : StreamId) (x : Standing) :
    (s.setStanding st x).standing st = x := by
  simp [State.setStanding, State.standing]

theorem standing_setStanding_ne {st y : StreamId} (h : y ≠ st) (x : Standing) :
    (s.setStanding st x).standing y = s.standing y := by
  simp [State.setStanding, State.standing, ctx_setCtx_ne s h]

@[simp] theorem setDevice_device (d : DeviceState) : (s.setDevice d).dc.device = d := rfl
@[simp] theorem setResult_result (r : CommandResult) : (s.setResult r).dc.result = r := rfl
@[simp] theorem setResult_device (r : CommandResult) : (s.setResult r).dc.device = s.dc.device := rfl
@[simp] theorem setInHand_inHand (j : Option JobInHand) : (s.setInHand j).walker.inHand = j := rfl
@[simp] theorem setInHand_queue (j : Option JobInHand) :
    (s.setInHand j).walker.queue = s.walker.queue := rfl
@[simp] theorem enqueue_queue (t : Txn) : (enqueue t s).rw.queue = s.rw.queue ++ [t] := rfl
@[simp] theorem enqueueAll_queue (ts : List Txn) : (enqueueAll ts s).rw.queue = s.rw.queue ++ ts := rfl
@[simp] theorem enqueue_pendingSet (t : Txn) : (enqueue t s).rw.pendingSet = s.rw.pendingSet := rfl

/-! ### Setting a part to what it is -/

@[simp] theorem setCtx_ctx (st : StreamId) : s.setCtx st (s.ctx st) = s := by
  cases s; simp [State.setCtx, State.ctx]

@[simp] theorem setLr_lr (k : Lane) : s.setLr k (s.lr k) = s := by
  cases s; simp [State.setLr, State.lr]

@[simp] theorem setLw_lw (k : Lane) : s.setLw k (s.lw k) = s := by
  cases s; simp [State.setLw, State.lw]

@[simp] theorem setCtx_setCtx (st : StreamId) (a b : Context) :
    (s.setCtx st a).setCtx st b = s.setCtx st b := by
  cases s; simp [State.setCtx]

@[simp] theorem setLr_setLr (k : Lane) (a b : Receiver) : (s.setLr k a).setLr k b = s.setLr k b := by
  cases s; simp [State.setLr]

@[simp] theorem setLw_setLw (k : Lane) (a b : Writer) : (s.setLw k a).setLw k b = s.setLw k b := by
  cases s; simp [State.setLw]

@[simp] theorem setStanding_standing (st : StreamId) : s.setStanding st (s.standing st) = s :=
  setCtx_ctx s st

@[simp] theorem setStanding_setStanding (st : StreamId) (x y : Standing) :
    (s.setStanding st x).setStanding st y = s.setStanding st y := by
  simp [State.setStanding]

end Sys2Proof.Machine
end

