-- ==== Sys2Proof/Laws/Ops.lean ====
section
/-! SUPPORT. Each shared operation once: what it changes, and what it leaves. -/

namespace Sys2Proof.Machine

/-! ### Whether the part takes commands -/

theorem live_awake (f : State → State) {s : State} (h : s.awake) : live f s = .next (f s) := by
  simp [live, h]

theorem live_asleep (f : State → State) {s : State} (h : s.dc.resetAsserted = true) :
    live f s = .next s := by
  simp [live, h]

theorem live_next (f : State → State) (s : State) : ∃ t, live f s = .next t := ⟨_, rfl⟩

/-! ### The pending set -/

/-- What `pend` does: it sets the stream's bit, in the device states that allow it. -/
theorem pend_eq (st : StreamId) (s : State) :
    pend st s = { s with rw := { s.rw with pendingSet :=
      if s.pendsAllowed then s.rw.pendingSet.set st.val true else s.rw.pendingSet } } := by
  unfold pend; split <;> rfl

theorem pend_of_working (st : StreamId) {s : State} (h : s.working) :
    pend st s = { s with rw := { s.rw with pendingSet := s.rw.pendingSet.set st.val true } } := by
  have : s.pendsAllowed := h.elim Or.inl (fun h => Or.inr (Or.inl h))
  simp [pend, this]

section
variable (st : StreamId) (s : State)
@[simp] theorem pend_pending : (pend st s).pending = s.pending := by rw [pend_eq]
@[simp] theorem pend_dc : (pend st s).dc = s.dc := by rw [pend_eq]
@[simp] theorem pend_streams : (pend st s).streams = s.streams := by rw [pend_eq]
@[simp] theorem pend_walker : (pend st s).walker = s.walker := by rw [pend_eq]
@[simp] theorem pend_receivers : (pend st s).receivers = s.receivers := by rw [pend_eq]
@[simp] theorem pend_writers : (pend st s).writers = s.writers := by rw [pend_eq]
@[simp] theorem pend_port : (pend st s).port = s.port := by rw [pend_eq]
@[simp] theorem pend_freeIndex : (pend st s).freeIndex = s.freeIndex := by rw [pend_eq]
@[simp] theorem pend_queue : (pend st s).rw.queue = s.rw.queue := by rw [pend_eq]
@[simp] theorem pend_publication : (pend st s).rw.publication = s.rw.publication := by rw [pend_eq]
@[simp] theorem pend_drain : (pend st s).rw.drain = s.rw.drain := by rw [pend_eq]
@[simp] theorem pend_ctx (x : StreamId) : (pend st s).ctx x = s.ctx x := by simp [State.ctx]
@[simp] theorem pend_standing (x : StreamId) : (pend st s).standing x = s.standing x := by
  simp [State.standing]
@[simp] theorem pend_order (x : StreamId) : (pend st s).order? x = s.order? x := by simp [State.order?]
@[simp] theorem pend_lr (k : Lane) : (pend st s).lr k = s.lr k := by simp [State.lr]
@[simp] theorem pend_lw (k : Lane) : (pend st s).lw k = s.lw k := by simp [State.lw]
end

/-! ### Responses -/

theorem respond_late {c : Client} {d : Direction} (isKind : Txn → Bool) (act : Txn → State → State)
    {s : State} (h : s.expired c d ≠ 0) : respond c d isKind act s = discardLate c d s := by
  unfold respond; exact if_pos h

theorem respond_none {c : Client} {d : Direction} (isKind : Txn → Bool) (act : Txn → State → State)
    {s : State} (h : s.expired c d = 0) (h' : oldest c d s = none) : respond c d isKind act s = s := by
  simp [respond, h, h']

/-- A response that ends a transaction of the kind its command names is acted on. -/
theorem respond_answers {t : Txn} {isKind : Txn → Bool} (act : Txn → State → State) {s : State}
    (h : Answers s t) (hk : isKind t = true) :
    respond t.client t.direction isKind act s = act t (s.ended t) := by
  obtain ⟨_, he, ho⟩ := h
  match hm : oldest t.client t.direction s with
  | none => simp [hm] at ho
  | some e =>
    have ht : e.txn = t := by simpa [hm] using ho
    simp [respond, he, hm, ht, hk]

/-- A response that ends a transaction of another kind than its command names changes nothing. -/
theorem respond_otherKind {t : Txn} {isKind : Txn → Bool} (act : Txn → State → State) {s : State}
    (h : Answers s t) (hk : isKind t = false) : respond t.client t.direction isKind act s = s := by
  obtain ⟨_, he, ho⟩ := h
  match hm : oldest t.client t.direction s with
  | none => simp [hm] at ho
  | some e =>
    have ht : e.txn = t := by simpa [hm] using ho
    simp [respond, he, hm, ht, hk]

/-- The oldest entry is the first of its client and direction, and taking it out leaves the rest. -/
theorem removeOldest_table {c : Client} {d : Direction} {s : State} {e : Entry}
    (h : oldest c d s = some e) : TableLess s.port.table (removeOldest c d s).port.table c d e := by
  obtain ⟨he, as, bs, hs, ha⟩ := List.find?_eq_some_iff_append.mp h
  refine ⟨as, bs, hs, ?_, he, ?_⟩
  · have ha' : ∀ x ∈ as, ¬ Entry.isOf c d x = true := fun x hx => by simpa using ha x hx
    show s.port.table.eraseP (Entry.isOf c d) = as ++ bs
    rw [hs, List.eraseP_append_right _ ha', List.eraseP_cons_of_pos he]
  · intro x hx
    simpa using ha x hx

/-- Everything but the table stays when a transaction ends. -/
theorem removeOldest_frame (c : Client) (d : Direction) (s : State) :
    { removeOldest c d s with port := { (removeOldest c d s).port with table := s.port.table } } = s := rfl

/-! ### Staging -/

theorem Staging.fits_empty : Staging.empty.fits := ⟨by simp [Staging.empty], by simp [Staging.empty]⟩

/-- Bytes that leave keep a staging buffer within its 64 chunks. -/
theorem Staging.fits_take {g : Staging} (h : g.fits) (n : Nat) : (g.take n).fits := by
  obtain ⟨h1, h2⟩ := h
  unfold Staging.take
  split
  · exact Staging.fits_empty
  · simp only [Staging.fits, List.length_drop, Config.chunkBytes] at *
    omega

/-- A byte that finds room keeps a staging buffer within its 64 chunks. -/
theorem Staging.fits_push {g : Staging} (h : g.fits) (hr : g.hasRoom = true) (b : Byte) :
    ({ g with bytes := g.bytes ++ [b] } : Staging).fits := by
  obtain ⟨h1, h2⟩ := h
  have hr' : (g.headLeft + g.bytes.length) % 64 ≠ 0 ∨ (g.headLeft + g.bytes.length + 64 - 1) / 64 < 64 := by
    simp only [Staging.hasRoom, Bool.or_eq_true, bne_iff_ne, decide_eq_true_eq] at hr
    simpa only [Staging.chunksInUse, Config.chunkBytes, Config.chunkCount] using hr
  simp only [Staging.fits, List.length_append, List.length_singleton] at *
  omega

/-! ### The walker queue -/

theorem hasJob_iff (st : StreamId) (q : List Job) : hasJob st q = true ↔ st ∈ q.map Job.stream := by
  simp [hasJob]

/-- An attention request leaves at most one queued job a stream. -/
theorem attendQueue_nodup (st : StreamId) {q : List Job} (h : (q.map Job.stream).Nodup) :
    ((attendQueue st q).map Job.stream).Nodup := by
  unfold attendQueue
  split
  · have : (q.map fun j => if j.stream = st then (⟨st, .anchor⟩ : Job) else j).map Job.stream
        = q.map Job.stream := by
      rw [List.map_map]; apply List.map_congr_left; intro j _; simp only [Function.comp]; split <;> simp_all
    rw [this]; exact h
  · rename_i hn
    have hn' : st ∉ q.map Job.stream := fun hc => hn ((hasJob_iff st q).mpr hc)
    simp only [List.map_append, List.map_cons, List.map_nil]
    exact List.nodup_append.mpr ⟨h, by simp, by simp; intro j hj e; exact hn' (by simp; exact ⟨j, hj, e⟩)⟩

/-- A job the SCT asks for leaves at most one queued job a stream. -/
theorem askJob_nodup (st : StreamId) (kind : JobKind) {s : State} (h : QueueLaw s) :
    QueueLaw (askJob st kind s) := by
  unfold askJob
  split
  · rename_i hc
    have hn' : st ∉ s.walker.queue.map Job.stream := fun hm => by
      simp [(hasJob_iff st s.walker.queue).mpr hm] at hc
    simp only [QueueLaw, List.map_append, List.map_cons, List.map_nil]
    exact List.nodup_append.mpr ⟨h, by simp, by simp; intro j hj e; exact hn' (by simp; exact ⟨j, hj, e⟩)⟩
  · exact h

end Sys2Proof.Machine
end

