-- ==== Sys2Proof/Laws/Frames.lean ====
section
/-! SUPPORT. Frames in flight and attention requests: what losing, dropping and faulting a frame, staging a
byte, sampling a trigger line, finding a pair's holder and a run of attention requests do. -/

namespace Sys2Proof.Machine

/-! ### Staging -/

theorem hasRoom_of_lt {g : Staging} (h : g.headLeft + g.bytes.length < 4096) : g.hasRoom = true := by
  simp only [Staging.hasRoom, Bool.or_eq_true, bne_iff_ne, decide_eq_true_eq]
  simp only [Staging.chunksInUse, Config.chunkBytes, Config.chunkCount]
  omega

theorem hasRoom_of_eq {g : Staging} (h : g.headLeft + g.bytes.length = 4096) : g.hasRoom = false := by
  simp [Staging.hasRoom, Staging.chunksInUse, Config.chunkBytes, Config.chunkCount, h]

/-! ### A stream with a frame in flight -/

@[simp] theorem order?_current (b : Binding) (halting : Bool) (o : CurrentOrder) :
    (Standing.bound b (.current halting o)).order? = some o := by
  cases halting <;> rfl

/-- Counting in the order of a CAPTURING or HALTING stream. -/
theorem count_current {st : StreamId} {s : State} {b : Binding} {halting : Bool} {o : CurrentOrder}
    (h : s.standing st = .bound b (.current halting o)) (f : Counters → Counters) :
    count st f s
      = s.setStanding st (.bound b (.current halting { o with counters := f o.counters })) := by
  cases halting <;> simp [count, mapOrder, h, Standing.mapOrder, Phase.mapOrder, Phase.current]

theorem frameOver_setStanding (s : State) (st : StreamId) (x : Standing) (b : Binding) (halting : Bool)
    (o : CurrentOrder) : (s.setStanding st x).frameOver st b halting o = s.frameOver st b halting o := by
  cases halting
  · simp [State.frameOver]
  · simp only [State.frameOver, if_true, setStanding_setStanding]; rfl

/-- The frame in flight of a CAPTURING or HALTING stream is over (R19). -/
theorem haltingEnd_current {k : Lane} {st : StreamId} {s : State} {b : Binding} {halting : Bool}
    {o : CurrentOrder} (hs : s.standing st = .bound b (.current halting o))
    (hk : halting = true → b.lane = k ∧ s.working) :
    haltingEnd k st s = s.frameOver st b halting o := by
  cases halting with
  | false =>
    have hs' : s.standing st = .bound b (.capturing o) := hs
    simp only [haltingEnd, hs', State.frameOver, Bool.false_eq_true, if_false]
    rw [← hs', State.setStanding, State.standing, setCtx_ctx]
  | true =>
    have hs' : s.standing st = .bound b (.halting o) := hs
    obtain ⟨hl, hw⟩ := hk rfl
    have hw' : ∀ x, (s.setStanding st x).working := fun _ => hw
    simp [haltingEnd, hs', hl, retire, State.order?, Standing.order?, enter, pend_of_working st (hw' _),
      handHalf, enqueue, CurrentOrder.half, linkOf, State.frameOver, State.now]

/-- The frame of a CAPTURING or HALTING stream is counted, and over (R19, R90). -/
theorem haltingEnd_count {k : Lane} {st : StreamId} {s : State} {b : Binding} {halting : Bool}
    {o : CurrentOrder} (hs : s.standing st = .bound b (.current halting o))
    (hk : halting = true → b.lane = k ∧ s.working) (f : Counters → Counters) :
    haltingEnd k st (count st f s) = s.frameOver st b halting { o with counters := f o.counters } := by
  rw [count_current hs]
  exact (haltingEnd_current (standing_setStanding ..) hk).trans (frameOver_setStanding ..)

/-- A stream that is not HALTING is left as it is when its frame ends (R19). -/
theorem haltingEnd_other {k : Lane} {st : StreamId} {s : State}
    (h : ∀ b o, s.standing st ≠ .bound b (.halting o)) : haltingEnd k st s = s := by
  unfold haltingEnd
  split
  · rename_i hs; exact absurd hs (h _ _)
  all_goals rfl

/-! ### Losing a frame -/

/-- A lane loss in the search (R62): counted at once; with a slot read to await the writer drops the frame,
and with none the frame is over. -/
theorem reportLoss_searching {k : Lane} {s : State} {f : FlightFrame} {b : Binding} {halting : Bool}
    {o : CurrentOrder} {slot read : Nat} {issued : Bool} (why : LossReason)
    (hs : s.standing f.stream = .bound b (.current halting o)) (hk : halting = true → b.lane = k ∧ s.working)
    (hl : s.lw k = .searching f slot read issued) :
    reportLoss k why s = if issued then
        ((stopStaging k s).setStanding f.stream (.bound b (.current halting o.oneLost))).setLw k
          (.dropping ⟨f, none, 1, false, none, false⟩)
      else ((stopStaging k s).setLw k .idle).frameOver f.stream b halting o.oneLost := by
  simp only [reportLoss, hl, count_current hs, startDrop]
  cases issued with
  | true => simp [setDrop, plainDrop, stopStaging]; rfl
  | false =>
    have key : haltingEnd k f.stream ((stopStaging k (s.setStanding f.stream
        (.bound b (.current halting o.oneLost)))).setLw k .idle)
        = ((stopStaging k s).setLw k .idle).frameOver f.stream b halting o.oneLost := by
      have hx : ((stopStaging k (s.setStanding f.stream (.bound b (.current halting o.oneLost)))).setLw k
          .idle).standing f.stream = .bound b (.current halting o.oneLost) := by simp
      rw [haltingEnd_current hx hk]
      exact frameOver_setStanding ((stopStaging k s).setLw k .idle) _ _ _ _ _
    rw [← key]
    by_cases hw : s.working
    · have hw' : ∀ x y w, ((stopStaging k (s.setStanding x y)).setLw k w).working := fun _ _ _ => hw
      simp only [Bool.false_eq_true, if_false, setDrop, plainDrop, if_true, finishDrop]
      rw [if_pos (hw' _ _ _)]
      rfl
    · have hw' : ∀ x y w, ¬ ((stopStaging k (s.setStanding x y)).setLw k w).working := fun _ _ _ => hw
      have hh : halting = false := by
        cases halting with
        | false => rfl
        | true => exact absurd (hk rfl).2 hw
      subst hh
      simp only [Bool.false_eq_true, if_false, setDrop, plainDrop, if_true, finishDrop]
      rw [if_neg (hw' _ _ _), haltingEnd_other (by simp [Phase.current])]
      rfl

/-- A lane loss after binding (R65): counted once the data writes issued have responded. -/
theorem reportLoss_bound {k : Lane} {s : State} {f : FlightFrame} {p : Placement} {b : Binding}
    {halting : Bool} {o : CurrentOrder} (why : LossReason) (hw : s.working)
    (hs : s.standing f.stream = .bound b (.current halting o)) (hk : halting = true → b.lane = k)
    (hl : s.lw k = .placing f p ∨ s.lw k = .closing f p) :
    reportLoss k why s =
      if p.outstanding = 0 then ((stopStaging k s).setLw k .idle).frameOver f.stream b halting o.oneLost
      else (stopStaging k s).setLw k (.dropping ⟨f, some p.slot, p.outstanding, true, none, false⟩) := by
  have e : reportLoss k why s = startDrop k ⟨f, some p.slot, p.outstanding, true, none, false⟩ s := by
    rcases hl with hl | hl <;> simp only [reportLoss, hl] <;> rfl
  rw [e]
  simp only [startDrop, setDrop]
  by_cases h0 : p.outstanding = 0
  · rw [if_pos h0, if_pos h0]
    have hs' : ((stopStaging k s).setLw k .idle).standing f.stream = .bound b (.current halting o) := hs
    have hw' : ((stopStaging k s).setLw k .idle).working := hw
    simp only [finishDrop]
    rw [if_pos hw']
    simp only [DroppedFrame.stream, Bool.not_false, Bool.and_true, if_true, Bool.false_eq_true, if_false]
    exact haltingEnd_count hs' (fun h => ⟨hk h, hw⟩) _
  · rw [if_neg h0, if_neg h0]

/-- A loss or an end that finds no frame in flight to end is disregarded (R106). -/
theorem reportLoss_noFrame {k : Lane} {s : State} (why : LossReason)
    (h : s.lw k = .idle ∨ ∃ d, s.lw k = .dropping d) : reportLoss k why s = s := by
  rcases h with h | ⟨d, h⟩ <;> simp only [reportLoss, h]

theorem reportEnd_noFrame {k : Lane} {s : State} (e : FrameEnd)
    (h : s.lw k = .idle ∨ ∃ d, s.lw k = .dropping d) : reportEnd k e s = s := by
  rcases h with h | ⟨d, h⟩ <;> simp only [reportEnd, h]

/-- A drop whose last transaction has ended, with nothing to count and nothing to hand over: the writer is
IDLE, and the frame of a HALTING stream is over (R19, R62, R156). -/
theorem finishDrop_plain {k : Lane} {s : State} {d : DroppedFrame} (hw : s.working) (hc : d.countLost = false)
    (hr : d.retirement = none)
    (hh : d.disowned = false → ∀ b o, s.standing d.stream ≠ .bound b (.halting o)) :
    finishDrop k d s = s.setLw k .idle := by
  have hw' : (s.setLw k .idle).working := hw
  simp only [finishDrop, hc, hr, Bool.false_and, Bool.false_eq_true, if_false]
  rw [if_pos hw']
  cases hd : d.disowned with
  | true => rfl
  | false => exact haltingEnd_other (hh hd)

/-- Counting in a stream with no current order changes nothing. -/
theorem count_faulted {st : StreamId} {s : State} {b : Binding} {c : FaultCode}
    (h : s.standing st = .bound b (.faulted c)) (f : Counters → Counters) : count st f s = s := by
  have e : (s.standing st).mapOrder (fun o => { o with counters := f o.counters }) = s.standing st := by
    rw [h]; rfl
  simp only [count, mapOrder, e, setStanding_standing]

/-- A drop whose last transaction has ended, its stream FAULTED or forgotten: nothing is counted, and a FAULT
retirement that waits is handed to the Report Writer (R152, R154, R158). -/
theorem finishDrop_over {k : Lane} {s : State} {d : DroppedFrame} (hw : s.working)
    (hh : d.disowned = true ∨ ∃ b c, s.standing d.stream = .bound b (.faulted c)) :
    finishDrop k d s = match d.retirement with
      | none => s.setLw k .idle
      | some (a, h) => { s.setLw k .idle with rw := { s.rw with
          pendingSet := s.rw.pendingSet.set d.stream.val true
          queue := s.rw.queue ++ [.deviceHalfWrite d.stream d.disowned a h] } } := by
  have hw' : (s.setLw k .idle).working := hw
  have counted : (if d.countLost && !d.disowned then count d.stream Counters.addLost (s.setLw k .idle)
      else s.setLw k .idle) = s.setLw k .idle := by
    rcases hh with h | ⟨b, c, h⟩
    · simp [h]
    · rw [count_faulted (s := s.setLw k .idle) h]; split <;> rfl
  have ended : (if d.disowned then s.setLw k .idle else haltingEnd k d.stream (s.setLw k .idle))
      = s.setLw k .idle := by
    rcases hh with h | ⟨b, c, h⟩
    · simp [h]
    · rw [haltingEnd_other (s := s.setLw k .idle) (fun x y e => by
        have e' : s.standing d.stream = .bound x (.halting y) := e
        rw [h] at e'; cases e')]
      split <;> rfl
  simp only [finishDrop]
  rw [if_pos hw', counted, ended]
  cases d.retirement with
  | none => rfl
  | some r => exact pend_of_working d.stream (s := enqueue (.deviceHalfWrite d.stream d.disowned r.1 r.2)
      (s.setLw k .idle)) hw

/-- The fault step of a CAPTURING or HALTING stream (R152). -/
theorem streamFault_current {st : StreamId} {s : State} {b : Binding} {halting : Bool} {o : CurrentOrder}
    (code : FaultCode) (hs : s.standing st = .bound b (.current halting o)) :
    streamFault st code s = pend st (s.setStanding st (.bound b (.faulted code))) := by
  cases halting <;> simp [streamFault, hs, Phase.current]

/-- A port fault on a transaction of the frame in flight (R154): the frame is counted lost unless it has been,
the stream FAULTED and pending, and the order's FAULT retirement waits for `n` transactions more. -/
theorem faultFrame_current {k : Lane} {f : FlightFrame} {slot : Option Nat} {counted : Bool} {n : Nat}
    {s : State} {b : Binding} {halting : Bool} {o : CurrentOrder} (code : FaultCode) (hw : s.working)
    (hs : s.standing f.stream = .bound b (.current halting o)) :
    let half := (if counted then o else o.oneLost).half .fault code.reason s.now
    let x : State := { (stopStaging k s).setStanding f.stream (.bound b (.faulted code)) with
      rw := { s.rw with pendingSet := s.rw.pendingSet.set f.stream.val true } }
    faultFrame k f slot code counted n s =
      if n = 0 then { x.setLw k .idle with
        rw := { x.rw with queue := s.rw.queue ++ [.deviceHalfWrite f.stream false o.address half] } }
      else x.setLw k (.dropping ⟨f, slot, n, false, some (o.address, half), false⟩) := by
  intro half x
  have hdrop : faultFrame k f slot code counted n s
      = setDrop k ⟨f, slot, n, false, some (o.address, half), false⟩ x := by
    cases counted with
    | true =>
      simp only [faultFrame, if_true, streamFault_current code hs, State.order?, hs, order?_current,
        Option.map_some, startDrop, plainDrop]
      rw [pend_of_working f.stream (s := s.setStanding f.stream (.bound b (.faulted code))) hw]
      rfl
    | false =>
      have hs' : (s.setStanding f.stream (.bound b (.current halting o.oneLost))).standing f.stream
          = .bound b (.current halting o.oneLost) := standing_setStanding ..
      have hc : count f.stream Counters.addLost s
          = s.setStanding f.stream (.bound b (.current halting o.oneLost)) := count_current hs _
      simp only [faultFrame, Bool.false_eq_true, if_false, hc, streamFault_current code hs', State.order?, hs',
        order?_current, Option.map_some, startDrop, plainDrop, setStanding_setStanding]
      rw [pend_of_working f.stream (s := s.setStanding f.stream (.bound b (.faulted code))) hw]
      rfl
  rw [hdrop, setDrop]
  by_cases h0 : n = 0
  · rw [if_pos h0, if_pos h0, finishDrop_over (s := x) hw (Or.inr ⟨b, code, standing_setStanding ..⟩)]
    simp [x, DroppedFrame.stream]
  · rw [if_neg h0, if_neg h0]

/-! ### Frame starts -/

/-- The one stream that holds a pair is the one the receiver finds (R3, R104). -/
theorem find_holder {k : Lane} {tag : Tag} {s : State} {st : StreamId} (h1 : holdsPair k tag s st = true)
   (h2 : ∀ x, holdsPair k tag s x = true → x = st) : allStreams.find? (holdsPair k tag s) = some st := by
  cases hf : allStreams.find? (holdsPair k tag s) with
  | none =>
    rw [List.find?_eq_none] at hf
    exact absurd h1 (hf st (List.mem_finRange st))
  | some x => rw [h2 x (List.find?_some hf)]

/-! ### The trigger line -/

/-- A receiver that is OFF or has sampled its line in this microsecond takes no sample (R113). -/
theorem sampleLine_none {k : Lane} {s : State} (h : (s.lr k).lock = .off ∨ (s.lr k).sampled = true) :
    sampleLine k s = s := by
  simp only [sampleLine, if_pos h]

/-- A sample that is the first, or of the held level, is held and makes no edge (R113). -/
theorem sampleLine_level {k : Lane} {s : State} (h : ¬ ((s.lr k).lock = .off ∨ (s.lr k).sampled = true))
    (hl : (s.lr k).heldLevel = none ∨ (s.lr k).heldLevel = some (s.lr k).line) :
    sampleLine k s = s.setLr k { s.lr k with heldLevel := some (s.lr k).line, sampled := true } := by
  simp only [sampleLine, if_neg h]
  rcases hl with hl | hl <;> simp [hl]

/-- A sample that differs from the held level is held and makes an edge (R113, R114). -/
theorem sampleLine_edge {k : Lane} {s : State} (h : ¬ ((s.lr k).lock = .off ∨ (s.lr k).sampled = true))
    (hl : (s.lr k).heldLevel = some (!(s.lr k).line)) :
    sampleLine k s = takeEdge k (edgeTo (s.lr k).line)
      (s.setLr k { s.lr k with heldLevel := some (s.lr k).line, sampled := true }) := by
  simp only [sampleLine, if_neg h, hl]
  cases (s.lr k).line <;> rfl

/-! ### Attention requests -/

/-- Attention requests of distinct streams in turn: the queue keeps its streams in order, the ones without a
job join at the tail, and each stream asked for has an ANCHOR job (R32, R33). -/
theorem attend_fold (l : List StreamId) (hl : l.Nodup) (s : State) (done : List StreamId)
   (orig : List Job)
   (hq : s.walker.queue.map Job.stream = orig.map Job.stream ++ done.filter (fun st => !(orig.map Job.stream).contains st))
   (hdis : ∀ x ∈ l, x ∉ done) :
   let t := l.foldl (fun s st => attend st s) s
   t = { s with walker := { s.walker with queue := t.walker.queue } } ∧
   t.walker.queue.map Job.stream = orig.map Job.stream ++ (done ++ l).filter (fun st => !(orig.map Job.stream).contains st)
   ∧ ∀ j ∈ t.walker.queue, (j.stream ∈ l → j.kind = .anchor) ∧ (j.stream ∉ l → j ∈ s.walker.queue) := by
  induction l generalizing s done with
  | nil => simp_all
  | cons a l ih =>
    simp only [List.foldl_cons]
    have hnd := List.nodup_cons.mp hl
    have hq1 : (attend a s).walker.queue.map Job.stream = orig.map Job.stream ++ (done ++ [a]).filter (fun st => !(orig.map Job.stream).contains st) := by
      simp only [attend, attendQueue]
      by_cases hj : hasJob a s.walker.queue = true
      · rw [if_pos hj]
        have : (s.walker.queue.map fun j => if j.stream = a then (⟨a, .anchor⟩ : Job) else j).map Job.stream = s.walker.queue.map Job.stream := by
          rw [List.map_map]; apply List.map_congr_left; intro j _; simp only [Function.comp]; split <;> simp_all
        rw [this, hq]
        rw [hasJob_iff, hq] at hj
        have : a ∈ orig.map Job.stream := by
          rcases List.mem_append.mp hj with h | h
          · exact h
          · exact absurd (List.mem_filter.mp h).1 (hdis a (by simp))
        simp [List.filter_append]
        simpa using this
      · rw [if_neg hj]
        rw [hasJob_iff, hq] at hj
        have : a ∉ orig.map Job.stream := fun hc => hj (List.mem_append_left _ hc)
        simp only [List.map_append, hq, List.filter_append, List.map_cons, List.map_nil]
        have hf : [a].filter (fun st => !(orig.map Job.stream).contains st) = [a] := by
          rw [List.filter_eq_self]; intro x hx
          rw [List.mem_singleton] at hx; subst hx
          rw [Bool.not_eq_true', ← Bool.not_eq_true, List.contains_iff_mem]; exact this
        rw [hf, List.append_assoc]
    have IH := ih hnd.2 (attend a s) (done ++ [a]) hq1 (by
      intro x hx hc
      rcases List.mem_append.mp hc with h | h
      · exact hdis x (by simp [hx]) h
      · simp at h; subst h; exact hnd.1 hx)
    obtain ⟨i1, i2, i3⟩ := IH
    refine ⟨?_, ?_, ?_⟩
    · rw [i1]; rfl
    · simpa using i2
    · intro j hj
      obtain ⟨k1, k2⟩ := i3 j hj
      constructor
      · intro hm
        rcases List.mem_cons.mp hm with h | h
        · have : j ∈ (attend a s).walker.queue := k2 (by rw [h]; exact hnd.1)
          simp only [attend, attendQueue] at this
          split at this
          · simp at this; obtain ⟨y, _, hy⟩ := this; split at hy
            · rw [← hy]
            · subst hy; contradiction
          · rename_i hno
            simp at this; rcases this with h1 | h1
            · exfalso; apply hno; simp [hasJob]; exact ⟨j, h1, h⟩
            · rw [h1]
        · exact k1 h
      · intro hm
        have h1 : j.stream ≠ a := fun h => hm (by simp [h])
        have h2 : j.stream ∉ l := fun h => hm (by simp [h])
        have := k2 h2
        simp only [attend, attendQueue] at this
        split at this
        · simp at this; obtain ⟨y, hy0, hy⟩ := this; split at hy
          · subst hy; exact absurd rfl h1
          · subst hy; exact hy0
        · simp at this; rcases this with h3 | h3
          · exact h3
          · rw [h3] at h1; exact absurd rfl h1

end Sys2Proof.Machine
end

