-- ==== Sys2Proof/Laws/Port.lean ====
section
/-! SUPPORT. The Memory Port: the deficit round-robin always reaches an eligible request, and what issuing a
request leaves at its client. -/

namespace Sys2Proof.Machine

/-! ### Deficit round-robin (R125) -/

/-- With quanta of 64 bytes or more the walk grants a request within the rounds its size needs. -/
theorem arrive_some (sizes : Client → Option Nat) (quanta : Client → Nat) (hq : ∀ c, 64 ≤ quanta c)
   (ct : Client) (sz : Nat) (hsz : sizes ct = some sz) :
   ∀ (fuel : Nat) (c : Client) (d : Vector Nat 14) (visits dist : Nat), (c.val + dist) % 14 = ct.val → dist < 14 →
     sz ≤ d[ct.val] + 64 * (visits + 1) → dist + 14 * visits < fuel →
     ∃ r, arrive sizes quanta fuel c d = some r := by
  intro fuel
  induction fuel with
  | zero => intro c d v dist h1 h2 h3 h4; omega
  | succ n ih =>
    intro c d v dist h1 h2 h3 h4
    unfold arrive
    have hcv := c.isLt
    have hctv := ct.isLt
    by_cases hc : c = ct
    · subst hc
      have hd0 : dist = 0 := by omega
      rw [hsz]; simp only
      split
      · exact ⟨_, rfl⟩
      · rename_i hnot
        have := hq c
        cases v with
        | zero => omega
        | succ v =>
          apply ih (nextClient c) _ v 13
          · simp [nextClient]; omega
          · omega
          · simp; omega
          · omega
    · have hdne : dist ≠ 0 := by
        intro h0; subst h0; apply hc; apply Fin.ext; omega
      have hne : c.val ≠ ct.val := fun h => hc (Fin.ext h)
      have hn : ((nextClient c).val + (dist - 1)) % 14 = ct.val := by simp [nextClient]; omega
      split
      · apply ih _ _ v (dist - 1) hn (by omega)
        · simp [hne]; omega
        · omega
      · simp only; split
        · exact ⟨_, rfl⟩
        · apply ih _ _ v (dist - 1) hn (by omega)
          · simp [hne]; omega
          · omega

/-- The client the walk grants has a request. -/
theorem arrive_elig (sizes : Client → Option Nat) (quanta : Client → Nat)  :
   ∀ (fuel : Nat) (c : Client) (d : Vector Nat 14) r, arrive sizes quanta fuel c d = some r → (sizes r.1).isSome := by
  intro fuel
  induction fuel with
  | zero => intro c d r h; simp [arrive] at h
  | succ n ih =>
    intro c d r h
    unfold arrive at h
    split at h
    · exact ih _ _ _ h
    · rename_i sz hs
      simp only at h; split at h
      · simp at h; rw [← h]; simp [hs]
      · exact ih _ _ _ h

/-! ### Issue -/

theorem advance_port (k : Lane) (s : State) : (advance k s).port = s.port := by
  unfold advance; split <;> (try rfl)
  split <;> (try rfl)
  split <;> (try rfl)
  unfold frameDecision; split <;> (try rfl)
  split <;> (try rfl)
  split <;> (try rfl)
  split
  · unfold haltingEnd; split <;> (try rfl)
    split <;> (try rfl)
    unfold retire; split <;> (try rfl)
    simp [enter]; split <;> simp
  · rfl

/-- Issue changes nothing of the port at the client. -/
theorem clientIssued_port (t : Txn) (s : State) : (clientIssued t s).port = s.port := by
  unfold clientIssued
  split <;> (try rfl)
  · split <;> rfl
  · split <;> (try rfl)
    rw [advance_port]; rfl
  · split <;> rfl

/-- An issued write of the Report Writer leaves its queue. -/
theorem clientIssued_rw (t : Txn) (s : State) (h : t.client = reporterClient) : (clientIssued t s).rw = {s.rw with queue := s.rw.queue.tail} := by
  unfold clientIssued
  cases t <;> simp [Txn.client, laneClient, reporterClient, walkerClient, Fin.ext_iff] at h <;> (try rfl)
  all_goals (rename_i k _ ; omega)

end Sys2Proof.Machine
end

