-- ==== Sys2Proof/Tests/Slice0.lean ====
section
/-! SUPPORT. Tests: ill-formed commands, the spec's worked examples, and for every statement that has
hypotheses a concrete state and operands that meet them, clause by clause. -/

namespace Sys2Proof.Tests

-- Each test is checked before the next: the kernel evaluations are not run in parallel.
set_option Elab.async false

open Sys2Proof Sys2Proof.Machine

/-! ### Well-formedness: an ill-formed term for each check -/

theorem test_unknownCommand_illFormed : (Instr.unknownCommand 5#32).wellFormed = false := by decide
theorem test_unknownCommand_wellFormed : (Instr.unknownCommand 6#32).wellFormed = true := by decide
theorem test_registerWriteOther_illFormed : (Instr.registerWriteOther 4#5 0xF#4 1#32).wellFormed = false := by
  decide
theorem test_registerWriteOther_wellFormed :
    (Instr.registerWriteOther 4#5 0x7#4 1#32).wellFormed = true
    ∧ (Instr.registerWriteOther 6#5 0xF#4 1#32).wellFormed = true
    ∧ (Instr.registerWriteOther 0#5 0xF#4 1#32).wellFormed = true
    ∧ (Instr.registerWriteOther 8#5 0xF#4 1#32).wellFormed = true := by decide
theorem test_noWordSpellsACommand : decodeTableWord 32 1 = none := rfl

/-! ### The spec's worked values -/

theorem test_ident : Config.ident = 0x504A4C81#32 := rfl
theorem test_crcCheckValue :
    [0x31#8, 0x32#8, 0x33#8, 0x34#8, 0x35#8, 0x36#8, 0x37#8, 0x38#8, 0x39#8].foldl crcByte crcStart
      = 0x29B1#16 := by decide +kernel
/-- 10.9's header: tag 2 with mark set, number 513, declared length 64. -/
theorem test_headerExample : (parseFrameHeader [0x06, 0x01, 0x02, 0x40, 0, 0, 0, 0]).map
    (fun h => (h.tag, h.mark, h.sourceNumber, h.declared, h.accepted))
      = some (2, true, 513#16, 64#32, true) := by decide
theorem test_headerReservedBit : (parseFrameHeader [0x08, 0x01, 0x02, 0x40, 0, 0, 0, 0]).map
    FrameHeader.accepted = some false := by decide
theorem test_secondCause : raisedCause (raisedCause 0 1#4) 4#4 = 13#4 := by decide
theorem test_gapOfTheSameNumber : gapOf (some 7) 7 = (true, 65535#16) := by decide
theorem test_deviceHalfAddress : (Txn.deviceHalfWrite 0 false 0x1000 ⟨.active, .none, .zero, 0, 0⟩).address
    = 0x1040#64 := by decide
theorem test_beatsOfAFillWrite :
    (Txn.fillWrite 0 0x1010 7).beats = [0x1010]
    ∧ ((Txn.fillWrite 0 0x1010 7).byteEnables 0x1010).countP id = 2 := by decide

/-! ### States to test on -/

/-- All lanes enabled under DROP_BAD, window 0 of 16 granules from address 0. -/
def snapshot : Snapshot :=
  { lanes := Vector.replicate 12 ⟨true, .sum, 0, .dropBad, 1⟩
    windows := (Vector.replicate 8 ⟨0, 0⟩).set 0 ⟨0, 16⟩
    walkerQuantum := 1, reporterQuantum := 1, sweepInterval := 1, refreshInterval := 1
    responseTimeout := 16 }

/-- The same with KEEP_BAD. -/
def keeping : Snapshot := { snapshot with lanes := Vector.replicate 12 ⟨true, .sum, 0, .keepBad, 1⟩ }

/-- A device in a state with a snapshot, every lane locked with three violations. -/
def base (d : DeviceState) : State :=
  { State.reset with
    dc := { Control.reset with device := d, snapshot := some snapshot }
    receivers := Vector.replicate 12 { Receiver.reset with lock := .locked 3, heldLevel := some false } }

/-- RUNNING. -/
def run : State := base .running

/-- An OPEN order of two pages, its first frame met. -/
def order : CurrentOrder :=
  { address := 128
    params := ⟨.open, .immediate, 0, .none, .strict, 1, 0, 2, 0, 1, 100, 0, 0x1000, 0x2000⟩
    cursor := 0, thinPhase := 0, counters := { Counters.zero with met := 1 }, commitsSince := 0
    acceptTime := 0 }

/-- The order with changed parameters. -/
def orderWith (f : OrderParams → OrderParams) : CurrentOrder := { order with params := f order.params }

def binding : Binding := ⟨0, 0, 0⟩

/-- Stream 0 bound to lane 0, tag 0. -/
def inPhase (p : Phase) (s : State) : State := s.setStanding 0 (.bound binding p)
/-- Lane 0's writer. -/
def writing (w : Writer) (s : State) : State := s.setLw 0 w
/-- Lane 0's open frame. -/
def hearing (f : OpenFrame) (s : State) : State := s.setLr 0 { s.lr 0 with frame := some f }
/-- Lane 0's staged bytes. -/
def staged (bytes : List Byte) (s : State) : State :=
  s.setLr 0 { s.lr 0 with staging := ⟨bytes, 0⟩ }
/-- One transaction outstanding. -/
def awaiting (t : Txn) (s : State) : State := { s with port := { s.port with table := [⟨t, 0⟩] } }
/-- A job of stream 0 in hand. -/
def working (stage : JobStage) (s : State) : State := s.setInHand (some ⟨⟨0, .anchor⟩, stage⟩)
/-- Jobs queued. -/
def queued (js : List Job) (s : State) : State := { s with walker := { s.walker with queue := js } }

/-- Stream 0's frame in flight. -/
def flight : FlightFrame := ⟨0, 5, false, none, false, false, false⟩
/-- The same with its end reported. -/
def ended (gauge : Word) : FlightFrame := { flight with ended := some ⟨gauge, false, false⟩ }
/-- A placement with `n` writes outstanding. -/
def place (n : Nat) : Placement := ⟨0, 0x1000, 3, 4, n⟩
/-- A drop that awaits `n`. -/
def dropped (n : Nat) (count : Bool) : DroppedFrame := ⟨flight, none, n, count, none, false⟩
def half : DeviceHalf := ⟨.active, .none, .zero, 0, 0⟩
/-- An accepted frame of four declared bytes, four received. -/
def frame (d : Disposition) : AcceptedFrame := ⟨0, false, 5, 4, d, 4, 0x1234⟩
/-- Offered and staged. -/
def offered : Disposition := .offered ⟨0, none, true⟩
def meta0 : SlotMeta := ⟨0, 5, 4, 0, 1, 0⟩

/-- `Answers`, by evaluation. -/
theorem answers_of {s : State} {t : Txn} (h : (s.dc.resetAsserted = false ∧ s.expired t.client t.direction = 0)
    ∧ (oldest t.client t.direction s).map Entry.txn = some t) : Answers s t := ⟨h.1.1, h.1.2, h.2⟩

/-! ### Hypotheses of the machine's and the Register Port's statements -/

theorem test_step_takesTheFront :
    step { State.reset with pending := [.irqOn, .enable] } = exec .irqOn { State.reset with pending := [.enable] }
    := rfl

/-- Lane 0's line has risen and is not sampled yet. -/
def risen (s : State) : State := s.setLr 0 { s.lr 0 with line := true }

theorem test_hyp_IdleStepIsOneMicrosecond :
    run.awake ∧ run.pending = [] ∧ (base .quiet).awake ∧ (base .quiet).dc.device ≠ .running
    ∧ (∀ k, ∀ e ∈ [Edge.rise, .fall], ¬ ((run.lr k).lock ≠ .off ∧ (run.lr k).sampled = false
      ∧ (run.lr k).heldLevel = some (decide (e = Edge.fall)) ∧ (run.lr k).line = decide (e = Edge.rise)))
    ∧ (risen run).awake ∧ (risen run).pending = [] ∧ (risen run).dc.device = .running
    ∧ ((risen run).lr 0).lock ≠ .off ∧ ((risen run).lr 0).sampled = false
    ∧ ((risen run).lr 0).heldLevel = some (decide (Edge.rise = .fall))
    ∧ ((risen run).lr 0).line = decide (Edge.rise = .rise) := by decide +kernel

/-- The microsecond's edge starts an armed order and is ignored by a capturing one. -/
theorem test_idleStep_edge :
    ((tick (risen (inPhase (.armed (orderWith fun q => { q with start := .edge, sense := 1 }) none) run))).standing
      0).code = 3
    ∧ ((tick (risen (inPhase (.capturing order) run))).order? 0).map (fun o => o.counters.edgesIgnored)
      = some 1 := by decide +kernel

theorem test_hyp_ResetInputHoldsThePart :
    ({ run with dc := { run.dc with resetAsserted := true } } : State).dc.resetAsserted = true
    ∧ Instr.enable ≠ .powerOnReset ∧ Instr.enable ≠ .resetInputReleased
    ∧ ∀ k e, Instr.enable ≠ .triggerEdge k e := ⟨rfl, by decide, by decide, nofun⟩

theorem test_hyp_ResetCompleteReachesOff :
    (base .resetting).awake ∧ (base .resetting).dc.device = .resetting
    ∧ (base .resetting).port.table = []
    ∧ (awaiting (.anchorRead 0) (base .resetting)).port.table ≠ [] ∧ run.dc.device ≠ .resetting := by
  decide +kernel

theorem test_hyp_RegisterReads :
    ({ run with port := { run.port with table := List.replicate 20 ⟨.anchorRead 0, 0⟩ } } : State).port.table.length
      ≤ 20 := by decide +kernel

theorem test_hyp_EnableAndQuiesceByDeviceState :
    State.reset.awake ∧ State.reset.dc.device = .off ∧ (base .quiet).dc.device = .quiet
    ∧ run.dc.device = .running ∧ run.dc.device ≠ .off ∧ run.dc.device ≠ .quiet
    ∧ (base .broken).dc.device ≠ .running := by decide +kernel

theorem test_hyp_ResetEntersResetting :
    (base .resetting).dc.device = .resetting ∧ run.awake ∧ run.dc.device ≠ .resetting ∧ run.lw 0 = .idle
    ∧ (writing (.placing flight (place 0)) run).lw 0 ≠ .idle
    ∧ laneOutstanding 0 (writing (.placing flight (place 0)) run) = 0
    ∧ laneOutstanding 0 (awaiting (.dataWrite 0 0 [1]) (writing (.placing flight (place 1)) run)) ≠ 0 := by
  decide +kernel

theorem test_hyp_OtherRegisterWrites :
    run.awake ∧ 6 ≤ (6#32).toNat ∧ 0x7#4 ≠ 0xF#4 ∧ (5#5).toNat % 4 ≠ 0
    ∧ State.reset.dc.device = .off ∧ (base .quiet).dc.device = .quiet
    ∧ run.dc.device ≠ .off ∧ run.dc.device ≠ .quiet := by decide +kernel

theorem test_hyp_AttendWriteAddsAnAnchorJob :
    State.reset.dc.device ≠ .running ∧ run.awake ∧ run.dc.device = .running ∧ 24 ≤ (24#32).toNat
    ∧ (23#32).toNat = (23 : StreamId).val ∧ (∀ j ∈ run.walker.queue, j.stream ≠ 23)
    ∧ (queued [⟨0, .link⟩, ⟨23, .fetch⟩] run).walker.queue = [⟨0, .link⟩] ++ ⟨23, .fetch⟩ :: []
    ∧ ∀ j ∈ [(⟨0, .link⟩ : Job)] ++ [], j.stream ≠ 23 := by decide +kernel

theorem test_hyp_InterruptOutputAndSeen :
    ({ run with dc := { run.dc with irqEnable := true } } : State).awake
    ∧ ({ run with dc := { run.dc with irqEnable := true } } : State).dc.irqEnable = true := by decide +kernel

theorem test_hyp_CauseWriteClearsItsBits : run.awake := by decide +kernel

theorem test_hyp_CommandResultLaw :
    State.reset.awake ∧ Instr.enable.wellFormed = true
    ∧ exec .enable State.reset = .next
      { State.reset with dc := { State.reset.dc with device := .loading ⟨.off, [], false⟩ } } :=
  ⟨by decide +kernel, rfl, rfl⟩

/-! ### Hypotheses of the Lane Receiver's statements -/

theorem test_hyp_HuntingReceiverLocksAt32Idles :
    run.awake ∧ ((run.setLr 0 { run.lr 0 with lock := .hunting 31 }).lr 0).lock = .hunting 31
    ∧ (run.lr 0).lock = .locked 3 ∧ (State.reset.lr 0).lock = .off := by decide +kernel

theorem test_hyp_onLink : onLink 0 (.dataByte 0 7) := by simp [onLink]

theorem test_hyp_SymbolsOutsideTheOfferedFrame :
    run.awake ∧ (run.lr 0).lock = .locked 3 ∧ (run.lr 0).frame = none
    ∧ ((hearing (.header [] 0xFFFF) run).lr 0).frame = some (.header [] 0xFFFF)
    ∧ ((hearing (.body (frame .discarded)) run).lr 0).frame = some (.body (frame .discarded))
    ∧ ((hearing (.crc (frame .followed) none) run).lr 0).frame = some (.crc (frame .followed) none)
    ∧ (frame .followed).received = (frame .followed).declared.toNat
    ∧ 3 + 1 = 4 ∧ 2 + 1 ≠ 4 := by decide +kernel

/-- A LOCKED lane 0 with an offered frame of a stream, CAPTURING unless said otherwise. -/
def losing (w : Writer) (p : Phase := .capturing order) : State :=
  writing w (inPhase p (hearing (.body (frame offered)) run))

theorem test_hyp_LaneLossDropsTheOfferedFrame (w : Writer) (halting : Bool)
    (hw : w = .searching flight 0 0 false ∨ w = .searching flight 0 0 true
      ∨ w = .placing flight (place 0) ∨ w = .closing flight (place 1) ∨ w = .idle
      ∨ w = .dropping (dropped 1 false)) :
    let s := losing w (.current halting order)
    s.awake ∧ s.working ∧ (s.lr 0).lock = .locked 3
    ∧ (s.lr 0).frame = some (.body (frame offered)) ∧ (frame offered).disposition = offered
    ∧ s.standing flight.stream = .bound binding (.current halting order) ∧ binding.lane = 0
    ∧ s.lw 0 = w := by
  rcases hw with rfl | rfl | rfl | rfl | rfl | rfl <;> cases halting <;> decide +kernel

/-- Seven header bytes heard: tag 0, number 5, declared length `n` (below 256). -/
def sevenBytes (n : Byte) : List Byte := [0, 5, 0, n, 0, 0, 0]

theorem test_hyp_HeaderBytes :
    State.reset.awake ∧ (run.lr 0).frame = none
    ∧ ((hearing (.header [1, 2, 3, 4, 5, 6] 0) run).lr 0).frame = some (.header [1, 2, 3, 4, 5, 6] 0)
    ∧ [1, 2, 3, 4, 5, 6].length < 7
    ∧ (parseFrameHeader (sevenBytes 3 ++ [0])).map FrameHeader.accepted = some false
    ∧ (parseFrameHeader (sevenBytes 2 ++ [0])).map FrameHeader.accepted = some true
    ∧ ((hearing (.header (sevenBytes 2) 0) (base .quiet)).lr 0).lock = .locked 3
    ∧ (hearing (.header (sevenBytes 2) 0) (base .quiet)).dc.device ≠ .running := by decide +kernel

/-- Lane 0 with an acceptable header one byte from its end, stream 0 in a phase. -/
def starting (p : Phase) (w : Writer) : State :=
  writing w (inPhase p (hearing (.header (sevenBytes 4) 0) run))

theorem test_hyp_FrameStartIsClassed_unbound :
    let s := hearing (.header (sevenBytes 4) 0) run
    s.awake ∧ s.dc.device = .running ∧ (s.lr 0).lock = .locked 3
    ∧ (s.lr 0).frame = some (.header (sevenBytes 4) 0) ∧ ∀ st, holdsPair 0 0 s st = false := by
  decide +kernel

/-- Unclaimed, passed over, thinned, offered, lost to a busy writer, and met by its mark. -/
theorem test_hyp_FrameStartIsClassed_bound (p : Phase) (w : Writer)
    (h : (p = .fetching (.fetch 128) ∧ w = .idle) ∨ (p = .armed order none ∧ w = .idle)
      ∨ (p = .capturing { order with thinPhase := 1 } ∧ w = .idle) ∨ (p = .capturing order ∧ w = .idle)
      ∨ (p = .capturing order ∧ w = .searching flight 0 0 false)
      ∨ (p = .armed (orderWith fun q => { q with start := .mark }) none ∧ w = .idle)) :
    (starting p w).awake ∧ (starting p w).dc.device = .running
    ∧ ((starting p w).lr 0).frame = some (.header (sevenBytes 4) 0)
    ∧ (starting p w).standing 0 = .bound binding p ∧ (starting p w).lw 0 = w
    ∧ ∀ x, holdsPair 0 0 (starting p w) x = true → x = 0 := by
  rcases h with ⟨rfl, rfl⟩ | ⟨rfl, rfl⟩ | ⟨rfl, rfl⟩ | ⟨rfl, rfl⟩ | ⟨rfl, rfl⟩ | ⟨rfl, rfl⟩ <;>
    decide +kernel

theorem test_hyp_FrameStartIsClassed_marked :
    (parseFrameHeader ([4, 5, 0, 4, 0, 0, 0] ++ [0])).map (fun h => (h.tag, h.mark, h.accepted))
      = some (0, true, true) := by decide +kernel

/-- A searching writer's frame with `n` bytes staged. -/
def filling (n : Nat) (p : Phase := .capturing order) : State :=
  staged (List.replicate n 7) (losing (.searching flight 0 0 true) p)

theorem test_hyp_PayloadBytes :
    (filling 0).awake ∧ ((filling 0).lr 0).lock = .locked 3
    ∧ ((filling 0).lr 0).frame = some (.body (frame offered))
    ∧ (filling 0).dc.snapshot = some snapshot ∧ (filling 0).lw 0 = .searching flight 0 0 true
    ∧ ((∀ halting, (filling 0 (.current halting order)).standing flight.stream
      = .bound binding (.current halting order)) ∧ binding.lane = 0 ∧ (filling 0).working) := by
  decide +kernel

/-- A byte of a frame no longer staged, whatever the writer does. -/
theorem test_hyp_PayloadBytes_unstaged (w : Writer)
    (hw : w = .idle ∨ w = .dropping (dropped 1 false) ∨ w = .committing flight (place 0) .fill 0) :
    let s := writing w (hearing (.body (frame (.offered ⟨0, none, false⟩))) run)
    s.awake ∧ (s.lr 0).frame = some (.body (frame (.offered ⟨0, none, false⟩))) ∧ s.lw 0 = w := by
  rcases hw with rfl | rfl | rfl <;> decide +kernel

theorem test_hyp_PayloadBytes_room : ∀ n, ((filling n).lr 0).staging.headLeft
    + ((filling n).lr 0).staging.bytes.length = n := by
  intro n; simp [filling, staged]

theorem test_hyp_PayloadBytes_full : ((filling 4095).lr 0).staging.headLeft
    + ((filling 4095).lr 0).staging.bytes.length < 4096
    ∧ ((filling 4096).lr 0).staging.headLeft + ((filling 4096).lr 0).staging.bytes.length = 4096 := by
  simp only [test_hyp_PayloadBytes_room]; decide

/-- Lane 0 with a frame in its CRC phase, its first CRC byte 0x34 heard. -/
def checking (n : Snapshot) (d : Disposition) (w : Writer) (p : Phase := .capturing order) : State :=
  let s := writing w (inPhase p (hearing (.crc (frame d) (some 0x34)) run))
  { s with dc := { s.dc with snapshot := some n } }

theorem test_hyp_FrameChecksAtTheEnd (n : Snapshot) (d : Disposition) (w : Writer) (halting : Bool)
    (h : n = snapshot ∨ n = keeping) (hd : d = .discarded ∨ d = .followed ∨ d = offered)
    (hw : w = .searching flight 0 0 true ∨ w = .searching flight 0 0 false ∨ w = .idle
      ∨ w = .dropping (dropped 1 false)) :
    let s := checking n d w (.current halting order)
    s.awake ∧ s.working ∧ (s.lr 0).lock = .locked 3
    ∧ (s.lr 0).frame = some (.crc (frame d) (some 0x34)) ∧ s.dc.snapshot = some n ∧ s.lw 0 = w
    ∧ s.standing flight.stream = .bound binding (.current halting order) ∧ binding.lane = 0 := by
  rcases h with rfl | rfl <;> rcases hd with rfl | rfl | rfl <;> rcases hw with rfl | rfl | rfl | rfl <;>
    cases halting <;> decide +kernel

/-- A discarded frame is checked outside RUNNING and QUIESCING too. -/
theorem test_hyp_FrameChecksAtTheEnd_anywhere : ∀ d ∈ [DeviceState.quiet, .broken, .resetting],
    let s := hearing (.crc (frame .discarded) (some 0x34)) (base d)
    s.awake ∧ ¬ s.working ∧ (s.lr 0).lock = .locked 3
    ∧ (s.lr 0).frame = some (.crc (frame .discarded) (some 0x34)) := by decide +kernel

/-- The two bytes agree with the CRC, or do not. -/
theorem test_hyp_FrameChecksAtTheEnd_crc :
    false = decide ((frame offered).crc.toNat ≠ (0x34#8).toNat + 256 * (0x12#8).toNat)
    ∧ true = decide ((frame offered).crc.toNat ≠ (0x34#8).toNat + 256 * (0x13#8).toNat)
    ∧ decide ((frame offered).received ≠ (frame offered).declared.toNat) = false
    ∧ snapshot.lanes[0].policy = .dropBad ∧ keeping.lanes[0].policy = .keepBad := by decide +kernel

/-- A bound frame in its body or CRC phase. -/
theorem test_hyp_BoundFramePayloadAndEnd (w : Writer) (halting : Bool)
    (hw : w = .placing flight (place 0) ∨ w = .closing flight (place 0) ∨ w = .placing flight (place 1)) :
    let s := staged [7] (losing w (.current halting order))
    s.awake ∧ s.working ∧ (s.lr 0).lock = .locked 3 ∧ (s.lr 0).frame = some (.body (frame offered))
    ∧ s.lw 0 = w ∧ s.dc.snapshot = some snapshot
    ∧ s.standing flight.stream = .bound binding (.current halting order) ∧ binding.lane = 0
    ∧ (checking snapshot offered w).lw 0 = w
    ∧ ((checking keeping offered w).lr 0).frame = some (.crc (frame offered) (some 0x34)) := by
  rcases hw with rfl | rfl | rfl <;> cases halting <;> decide +kernel

/-- At the page end and one byte before it; with a byte staged and with none. -/
theorem test_hyp_BoundFramePayloadAndEnd_page :
    256 * 2 ^ order.params.sizeCode ≤ (⟨0, 0x1000, 3, 255, 0⟩ : Placement).offset + [7].length
    ∧ (⟨0, 0x1000, 3, 254, 0⟩ : Placement).offset + [7].length < 256 * 2 ^ order.params.sizeCode
    ∧ ((staged [] (losing .idle)).lr 0).staging.bytes = []
    ∧ ((staged [7] (losing .idle)).lr 0).staging.bytes ≠ [] := by decide +kernel

theorem test_hyp_TriggerEdgeIsTakenForEveryStreamOfTheLane :
    run.awake ∧ (run.lr 0).lock ≠ .off ∧ (run.lr 0).heldLevel = some (decide (Edge.rise = .fall))
    ∧ (run.lr 0).sampled = false ∧ run.dc.device = .running ∧ (base .quiet).dc.device ≠ .running
    ∧ ((base .quiet).lr 0).heldLevel = some (decide (Edge.rise = .fall))
    ∧ (State.reset.lr 0).lock = .off
    ∧ ((run.setLr 0 { run.lr 0 with sampled := true }).lr 0).sampled = true
    ∧ ((run.setLr 0 { run.lr 0 with heldLevel := none }).lr 0).heldLevel = none
    ∧ ((run.setLr 0 { run.lr 0 with heldLevel := some true }).lr 0).heldLevel
      = some (decide (Edge.rise = .rise)) := by decide +kernel

/-- The state a command leaves. -/
def following (c : Instr) (s : State) : State :=
  match exec c s with
  | .next t => t
  | .fault _ | .refused _ => s

/-- A pulse that falls again before the next microsecond is sampled once, as a rise (R113): the fall is
sampled in the microsecond after it. -/
theorem test_triggerPulse :
    let pulsed := following (.triggerEdge 0 .fall) (following (.triggerEdge 0 .rise) run)
    (pulsed.lr 0).heldLevel = some true ∧ (pulsed.lr 0).line = false
    ∧ ((tick pulsed).lr 0).heldLevel = some true ∧ ((tick pulsed).lr 0).sampled = false
    ∧ ((tick (tick pulsed)).lr 0).heldLevel = some false := by decide +kernel

/-- The edge starts an armed order, and is ignored by a capturing one. -/
theorem test_triggerEdge_byPhase :
    (∃ s t, s = inPhase (.armed (orderWith fun q => { q with start := .edge, sense := 1 }) none) run
      ∧ exec (.triggerEdge 0 .rise) s = .next t ∧ (t.standing 0).code = 3)
    ∧ ∃ t, exec (.triggerEdge 0 .rise) (inPhase (.capturing order) run) = .next t
      ∧ (t.order? 0).map (fun o => o.counters.edgesIgnored) = some 1 :=
  ⟨⟨_, _, rfl, rfl, by decide +kernel⟩, _, rfl, by decide +kernel⟩

theorem test_hyp_CrcAndGauge : (⟨0, none, true⟩ : Gauging).low = none := rfl
/-- The gauges of one frame's samples 300, 32768 and 232 under an over level of 250. -/
theorem test_gauges :
    let bytes : List Byte := [0x2C, 0x01, 0x00, 0x80, 0xE8, 0x00]
    let gauge (k : GaugeKind) : Word := (bytes.foldl (gaugeByte k 250) ⟨0, none, true⟩).gauge
    gauge .sum = 33300 ∧ gauge .peak = 32768 ∧ gauge .over = 2 := by decide +kernel

/-! ### Hypotheses of the timers' statements -/

theorem test_hyp_ArmDeadlineExpiryRetiresNoTrigger :
    let s := inPhase (.armed order (some 0)) run
    s.awake ∧ s.standing 0 = .bound binding (.armed order (some 0)) ∧ s.dc.device = .running
    ∧ reached s.now 0 = true ∧ reached s.now 1 = false := by decide +kernel

/-- A time is reached for 2^63 microseconds, across the wrap of the time base too. -/
theorem test_reached :
    reached 0 (2 ^ 63 + 1 : Nat) = true ∧ reached 0 (2 ^ 63 : Nat) = false
    ∧ reached (2 ^ 64 - 1 : Nat) 0 = false ∧ reached 0 (2 ^ 64 - 1 : Nat) = true := by decide +kernel

theorem test_hyp_ArmDeadlineExpiry_notDue : ∀ b o due, run.standing 0 = .bound b (.armed o (some due)) →
    run.dc.device ≠ .running ∨ reached run.now due = false := by
  intro b o due h
  have : run.standing 0 = .idle := by decide +kernel
  simp [this] at h

/-- RUNNING with both timers due now. -/
def due : State :=
  { run with
    walker := { run.walker with sweepDue := some 0 }
    rw := { run.rw with refreshDue := some 0, laneUnanswered := 1 } }

theorem test_hyp_PeriodicTimers :
    due.awake ∧ due.dc.snapshot = some snapshot ∧ due.dc.device = .running ∧ reached due.now 0 = true
    ∧ due.walker.sweepDue = some 0 ∧ snapshot.sweepInterval ≠ 0 ∧ due.rw.refreshDue = some 0
    ∧ due.rw.laneUnanswered ≠ 0
    ∧ ({ due with rw := { due.rw with laneUnanswered := 0 } } : State).rw.laneUnanswered = 0 := by
  decide +kernel

/-- The oldest transaction, whatever its kind, has a row that is its error response. -/
theorem test_hyp_ResponseTimeoutIsAPortFault_row (t : Txn)
    (ht : t = .headerRead 0 ∨ t = .slotRead 11 0 ∨ t = .summaryWrite 0xC00 ⟨1, .running, 0⟩) :
    Answers (awaiting t run) t := by
  rcases ht with rfl | rfl | rfl <;> exact answers_of (by decide +kernel)

theorem test_hyp_ResponseTimeoutIsAPortFault :
    let s := awaiting (.anchorRead 0) run
    s.awake ∧ oldest walkerClient .read s = some ⟨.anchorRead 0, 0⟩ ∧ reached s.now 0 = true
    ∧ reached s.now 1 = false ∧ (s.expired walkerClient .read).toNat < 255
    ∧ ((s.setExpired walkerClient .read 254).expired walkerClient .read).toNat < 255
    ∧ oldest walkerClient .read (s.setExpired walkerClient .read 255) = some ⟨.anchorRead 0, 0⟩ := by
  decide +kernel

/-! ### Hypotheses of the Memory Port's statements -/

/-- A CAPTURING stream whose frame searches: lane 0 presents a slot read. -/
def presenting : State := writing (.searching flight 0 0 false) (inPhase (.capturing order) run)

theorem test_hyp_GrantIssuesAnEligibleRequest :
    presenting.awake ∧ presenting.port.issuePoint = none ∧ (∀ c, 64 ≤ quantumBytes c presenting)
    ∧ (∀ c, ((eligible c presenting).map Txn.size).getD 0 ≤ 256)
    ∧ eligible 0 presenting = some (.slotRead 0 0x2000)
    ∧ (∀ c, eligible c run = none)
    ∧ (State.port { run with port := { run.port with issuePoint := some (.anchorRead 0) } }).issuePoint.isSome
      = true := by decide +kernel

/-- Lane 0 urgent: 3072 bytes staged of a bound frame. -/
def pressed : State := staged (List.replicate 3072 7) (writing (.placing flight (place 0))
  (inPhase (.capturing order) run))

theorem test_hyp_GrantIssuesAnEligibleRequest_snapshot :
    State.reset.dc.snapshot = none ∧ presenting.dc.snapshot = some snapshot
    ∧ ∀ a, Txn.anchorRead 0 ≠ .headerRead a := ⟨rfl, rfl, nofun⟩

theorem test_hyp_GrantServesUrgentLanes :
    pressed.awake ∧ pressed.port.issuePoint = none
    ∧ (0 : Lane).val = (pressed.port.urgentPointer.val + 0) % 12
    ∧ 3072 ≤ (pressed.lr 0).staging.bytes.length
    ∧ (eligible (laneClient 0) pressed).map Txn.size = some 252 := by decide +kernel

/-- Section 6's visit: client 0's request fits its deficit, and an arrival gives it its quantum. -/
theorem test_hyp_GrantServesRoundRobin :
    presenting.awake ∧ presenting.port.issuePoint = none
    ∧ (∀ k, (presenting.lr k).staging.bytes.length < 3072 ∨ eligible (laneClient k) presenting = none)
    ∧ presenting.port.position = none ∧ (0 : Client).val = (0 + 0) % 14
    ∧ (Txn.slotRead 0 0x2000).size ≤ presenting.port.deficits[(0 : Client).val] + quantumBytes 0 presenting
    ∧ (let s : State := { presenting with port := { presenting.port with
          position := some 0, deficits := presenting.port.deficits.set 0 16 } };
        (∀ k, (s.lr k).staging.bytes.length < 3072) ∧ s.port.position = some 0
        ∧ eligible 0 s = some (.slotRead 0 0x2000)
        ∧ (Txn.slotRead 0 0x2000).size ≤ s.port.deficits[(0 : Client).val])
    ∧ (let s : State := { presenting with port := { presenting.port with
          position := some 13, deficits := presenting.port.deficits.set 0 15 } };
        s.port.position = some 13 ∧ eligible 13 s = none ∧ (0 : Client).val = (14 + 0) % 14) := by
  decide +kernel

/-- A grant of every kind of request. -/
theorem test_hyp_AnIssuedRequestLeavesItsClient :
    (∀ s ∈ [presenting, pressed, working (.anchorRead false) run, base (.loading ⟨.off, [], false⟩),
        enqueue (.fillWrite 0 0x2000 1) run],
      s.awake ∧ (∀ t ∈ s.rw.queue, t.client = reporterClient) ∧ s.port.issuePoint = none
      ∧ (grantOne s).port.issuePoint.isSome = true)
    ∧ (grantOne (working (.anchorRead false) run)).port.issuePoint = some (.anchorRead 0x200)
    ∧ (grantOne (base (.loading ⟨.off, [], false⟩))).port.issuePoint = some (.headerRead 0) := by
  decide +kernel

/-- A PLACING writer with a whole write staged, with the rest of an ended frame, and with neither; and a
writer in each state that presents nothing. -/
theorem test_hyp_AnIssuedRequestLeavesItsClient_presents :
    (let most : Nat := min 256 (min (4096 - (0x1000#64 + BitVec.ofNat 64 4).toNat % 4096)
        (256 * 2 ^ order.params.sizeCode - 4));
      0 < most ∧ most ≤ 3072 ∧ [7].length < most)
    ∧ pressed.order? flight.stream = some order ∧ presenting.order? flight.stream = some order
    ∧ (pressed.lr 0).staging.bytes.length = 3072 ∧ ((staged [7] pressed).lr 0).staging.bytes = [7]
    ∧ (ended 99).ended.isSome = true ∧ flight.ended = none
    ∧ (∀ w ∈ [.idle, .searching flight 0 0 true, .closing flight (place 0),
        .committing flight (place 0) .fill 0, .dropping (dropped 1 false)],
      (writing w presenting).lw 0 = w) := by decide +kernel

theorem test_hyp_AcceptanceAndLateResponses :
    run.awake ∧ run.expired 0 .read = 0 ∧ (run.setExpired 0 .read 255).expired 0 .read ≠ 0
    ∧ (run.setExpired walkerClient .read 1).expired walkerClient .read ≠ 0
    ∧ (run.setExpired reporterClient .write 1).expired reporterClient .write ≠ 0
    ∧ (0 : Client) = laneClient 0 := by decide +kernel

/-! ### Hypotheses of the Chain Walker's statements -/

theorem test_hyp_WalkerTakesItsJobs :
    (∀ p ∈ [Phase.fetching (.fetch 128), .fetching (.fetch 0xFF80), .fetching (.link 128 true),
        .fetching (.fetch 0x10000)], ∀ kind ∈ [JobKind.anchor, .fetch, .link],
      (inPhase p (queued [⟨0, kind⟩] run)).awake
      ∧ (inPhase p (queued [⟨0, kind⟩] run)).dc.device = .running
      ∧ (inPhase p (queued [⟨0, kind⟩] run)).walker.inHand = none
      ∧ (inPhase p (queued [⟨0, kind⟩] run)).walker.queue = ⟨0, kind⟩ :: [])
    ∧ insideWindow (run.window 0) 0xFF80 128 = true ∧ insideWindow (run.window 0) 0x10000 128 = false
    ∧ (∀ n ∈ [0, 1], (working (.awaitWrites 128 n) (inPhase (.fetching (.fetch 128)) run)).working
      ∧ (working (.awaitWrites 128 n) (inPhase (.fetching (.fetch 128)) run)).walker.inHand
        = some ⟨⟨0, .anchor⟩, .awaitWrites 128 n⟩
      ∧ (working (.awaitWrites 128 n) (inPhase (.fetching (.fetch 128)) run)).standing 0
        = .bound binding (.fetching (.fetch 128))) := by decide +kernel

/-- Containment at the ends of a window, of one of size 0, and of one that ends at 2^64. -/
theorem test_insideWindow :
    let last : Addr := BitVec.ofNat 64 (2 ^ 64 - 4096)
    insideWindow ⟨0x1000, 1⟩ 0x1000 4096 = true ∧ insideWindow ⟨0x1000, 1⟩ 0x1000 4097 = false
    ∧ insideWindow ⟨0x1000, 1⟩ 0xFFF 1 = false ∧ insideWindow ⟨0x1000, 0⟩ 0x1000 0 = false
    ∧ insideWindow ⟨last, 1⟩ (last + 3968) 128 = true ∧ insideWindow ⟨last, 1⟩ (last + 3968) 129 = false
    ∧ run.dc.snapshot = some snapshot ∧ run.window 0 = ⟨0, 16⟩ := by decide +kernel

/-- The device-half writes a fetch waits for, of any stream, queued and outstanding. -/
theorem test_halvesOpen :
    halvesOpen (enqueue (.deviceHalfWrite 5 false 128 half)
      (awaiting (.deviceHalfWrite 0 false 256 half) run)) = 2 := by decide +kernel

theorem test_hyp_WalkerTakesItsJobs_noStep :
    (∀ b a, run.standing 0 ≠ .bound b (.fetching (.fetch a)))
    ∧ ∀ b a, run.standing 0 ≠ .bound b (.fetching (.link a true)) := by
  have : run.standing 0 = .idle := by decide +kernel
  simp [this]

/-- The anchor read of stream 0, outstanding. -/
def anchored (p : Phase) : State := awaiting (.anchorRead 0x200) (working (.anchorRead true) (inPhase p run))

theorem test_hyp_AnchorReadActsAndGoesOn (p : Phase)
    (hp : p = .parked 128 ∨ p = .fetching (.link 128 true) ∨ p = .fetching (.fetch 128)
      ∨ p = .fetching (.fetch 0x10000) ∨ p = .capturing order) :
    Answers (anchored p) (.anchorRead 0x200) ∧ (anchored p).working
    ∧ (anchored p).walker.inHand = some ⟨⟨0, .anchor⟩, .anchorRead true⟩
    ∧ (anchored p).standing 0 = .bound binding p := by
  rcases hp with rfl | rfl | rfl | rfl | rfl <;>
    exact ⟨answers_of (by decide +kernel), by decide +kernel, by decide +kernel, by decide +kernel⟩

/-- The anchor's fields at their bytes. -/
theorem test_parseAnchor :
    parseAnchor 0x1716151413121110070605040302010A#128
      = ⟨0x0A, 1, 2, 3, 4, 0x070605, 0x1716151413121110⟩ := by decide +kernel

/-- No new request; and the kinds START to FORGET and two that name none. -/
theorem test_hyp_AnchorReadActsAndGoesOn_kinds :
    (parseAnchor 0#128).number = (run.ctx 0).acted
    ∧ (∀ kind ∈ [0, 1, 2, 3, 4, 5], (parseAnchor (BitVec.ofNat 128 (9 + 256 * kind))).number
        ≠ (run.ctx 0).acted
      ∧ (parseAnchor (BitVec.ofNat 128 (9 + 256 * kind))).kind.toNat = kind) := by decide +kernel

/-! ### Hypotheses of the requests' statements -/

/-- A stream's request may be acted on while its own job's anchor read is under way. -/
def requested (s : State) : State := working (.anchorRead true) s

theorem test_hyp_StartBindsTheStream :
    (requested run).awake ∧ (requested run).working ∧ requestOpen 0 (requested run) = true
    ∧ 9#8 ≠ ((requested run).ctx 0).acted ∧ (requested run).standing 0 = .idle
    ∧ (requested (inPhase (.parked 128) run)).standing 0 ≠ .idle
    ∧ (11#8).toNat < 12 ∧ ¬ (12#8).toNat < 12 ∧ (3#8).toNat < 4 ∧ ¬ (4#8).toNat < 4
    ∧ binding.lane.val = (0#8).toNat ∧ binding.tag.val = (0#8).toNat ∧ binding.window.val = (0#8).toNat
    ∧ (∀ x, x ≠ 0 → holdsPair 0 0 (requested run) x = false)
    ∧ requestOpen 0 run = true ∧ requestOpen 0 (base .quiescing) = false
    ∧ requestOpen 0 (working (.linkRead 128 true) run) = false
    ∧ (requested run).dc.snapshot = some snapshot
    ∧ (requested run).laneEnabled 0 = true ∧ (requested State.reset).laneEnabled 0 = false
    ∧ (128#64).toNat % 128 = 0 ∧ (129#64).toNat % 128 ≠ 0
    ∧ ((requested run).window 0).granules ≠ 0 ∧ ((requested run).window 1).granules = 0 := by
  decide +kernel

theorem test_hyp_StartBindsTheStream_taken :
    ∃ x : StreamId, x ≠ 1 ∧ holdsPair 0 0 (inPhase (.parked 128) run) x = true :=
  ⟨0, by decide, by decide +kernel⟩

theorem test_hyp_requestsByPhase (p : Phase)
    (hp : p = .fetching (.link 128 false) ∨ p = .parked 128 ∨ p = .armed order none ∨ p = .capturing order
      ∨ p = .halting order ∨ p = .halted (.fetch 128) ∨ p = .halted (.link 128 false)
      ∨ p = .faulted .readFault) :
    (requested (inPhase p run)).awake ∧ (requested (inPhase p run)).working
    ∧ requestOpen 0 (requested (inPhase p run)) = true ∧ 9#8 ≠ ((requested (inPhase p run)).ctx 0).acted
    ∧ (requested (inPhase p run)).standing 0 = .bound binding p := by
  rcases hp with rfl | rfl | rfl | rfl | rfl | rfl | rfl | rfl <;> decide +kernel

/-- HALT of a CAPTURING stream with a frame in flight and with none. -/
theorem test_hyp_HaltStopsTheStream :
    ((requested (inPhase (.capturing order) run)).lw 0).stream? ≠ some 0
    ∧ ((requested (writing (.placing flight (place 0)) (inPhase (.capturing order) run))).lw 0).stream?
      = some 0 := by decide +kernel

/-- FORGET of a FAULTED stream whose frame still drops. -/
theorem test_hyp_ResumeAndForget_dropping :
    (requested (writing (.dropping (dropped 1 false)) (inPhase (.faulted .writeFault) run))).lw 0
      = .dropping (dropped 1 false)
    ∧ (dropped 1 false).frame.stream = 0
    ∧ ∀ d, (requested run).lw 0 ≠ .dropping d := by
  have h : (requested run).lw 0 = .idle := by decide +kernel
  exact ⟨by decide +kernel, rfl, by simp [h]⟩

theorem test_hyp_ResumeAndForget : ∀ b r, run.standing 0 ≠ .bound b (.halted r) := by
  have : run.standing 0 = .idle := by decide +kernel
  simp [this]

/-! ### Hypotheses of the orders' and links' statements -/

/-- A valid SINGLE order record: IMMEDIATE, thin 1, one page of 256 bytes at `base`, slots at `slots`. -/
def record (pages slots : Nat) : Read128 :=
  BitVec.ofNat 1024 (1 * 2 ^ 64 + 1 * 2 ^ 72 + 1 * 2 ^ 104 + 1 * 2 ^ 128 + pages * 2 ^ 256 + slots * 2 ^ 320)

/-- Whether a record parses. -/
def parses (d : Read128) : Option Reason :=
  match parseOrder d with
  | .ok _ => none
  | .error r => some r

theorem test_parseOrder :
    parses (record 0x1000 0x2000) = none ∧ parses 0 = some .badKind
    ∧ parses (record 0x1001 0x2000) = some .baseAlign ∧ parses (record 0x1000 0x2001) = some .slotAlign := by
  decide +kernel

/-- The order read of stream 0 at 128, outstanding. -/
def reading : State :=
  awaiting (.orderRead 128) (working (.orderRead 128 true) (inPhase (.fetching (.fetch 128)) run))

theorem test_hyp_OrderReadJudgesTheOrder :
    Answers reading (.orderRead 128) ∧ reading.working
    ∧ reading.walker.inHand = some ⟨⟨0, .anchor⟩, .orderRead 128 true⟩
    ∧ reading.standing 0 = .bound binding (.fetching (.fetch 128))
    ∧ byteAt (BitVec.ofNat 1024 (2 ^ 512)) 64 ≠ 0 ∧ byteAt (record 0x1000 0x2000) 64 = 0
    ∧ insideWindow (reading.window 0) 0xFF00 256 = true
    ∧ insideWindow (reading.window 0) 0x10000 256 = false
    ∧ insideWindow (reading.window 0) 0xFFE0 32 = true
    ∧ insideWindow (reading.window 0) 0x10000 32 = false :=
  ⟨answers_of (by decide +kernel), by decide +kernel⟩

/-- The link read of stream 0, outstanding. -/
def linking (p : Phase) : State :=
  awaiting (.linkRead 128) (working (.linkRead 128 true) (inPhase p run))

theorem test_hyp_LinkReadMovesTheStream_presented :
    (working (.linkRead 128 false) run).working
    ∧ (working (.linkRead 128 false) run).walker.inHand = some ⟨⟨0, .anchor⟩, .linkRead 128 false⟩ := by
  decide +kernel

theorem test_hyp_LinkReadMovesTheStream (p : Phase)
    (hp : p = .fetching (.link 128 true) ∨ p = .parked 128) :
    Answers (linking p) (.linkRead 128) ∧ (linking p).working
    ∧ (linking p).walker.inHand = some ⟨⟨0, .anchor⟩, .linkRead 128 true⟩
    ∧ (linking p).standing 0 = .bound binding p
    ∧ (field (0 : Read16) 0 8 : Addr) = 0 ∧ (field (1 : Read16) 0 8 : Addr).toNat % 128 ≠ 0
    ∧ (field (256 : Read16) 0 8 : Addr) ≠ 0 ∧ (field (256 : Read16) 0 8 : Addr).toNat % 128 = 0
    ∧ ∀ j ∈ (linking p).walker.queue, j.stream ≠ 0 := by
  rcases hp with rfl | rfl <;>
    exact ⟨answers_of (by decide +kernel), by decide +kernel⟩

/-! ### Hypotheses of the load's statements -/

/-- A Board header that passes every test: all lanes enabled, window 0 of 16 granules. -/
def boardHeader : Nat :=
  1 + 2 ^ 40 + 16 * 2 ^ 48 + 2 ^ 64 + 2 ^ 72
    + ((List.range 12).map fun k => (1 + 2 ^ 40) * 2 ^ (8 * (0x40 + 16 * k))).sum
    + 16 * 2 ^ (8 * 0x108)

/-- The four parts of a header. -/
def part (h i : Nat) : Read128 := BitVec.ofNat 1024 (h / 2 ^ (1024 * i))

/-- The number of the first test that a header fails. -/
def fails (h : Nat) : Option Nat :=
  match parseHeader (headerOf [part h 0, part h 1, part h 2, part h 3]) with
  | .ok _ => none
  | .error n => some n

theorem test_headers :
    fails boardHeader = none ∧ fails (boardHeader + 1) = some 1
    ∧ fails (boardHeader + 2 ^ (8 * 0x10C)) = some 14 ∧ fails (boardHeader + 64 * 2 ^ 64) = some 10
    ∧ fails (boardHeader + 2 ^ (8 * 0x100)) = some 8 := by
  decide +kernel

/-- A byte of the third part in its place in the header. -/
theorem test_headerOf :
    byteAt (headerOf [part boardHeader 0, part boardHeader 1, part boardHeader 2, part boardHeader 3]) (256 + 8)
      = byteAt (part boardHeader 2) 8
    ∧ byteAt (part boardHeader 2) 8 = 16 ∧ 127 < 128 := by decide +kernel

/-- LOADING with three parts read and the fourth outstanding. -/
def loading (o : LoadOrigin) : State :=
  awaiting (.headerRead 0x180)
    (base (.loading ⟨o, [part boardHeader 0, part boardHeader 1, part boardHeader 2], true⟩))

theorem test_hyp_LoadReadsFourPartsOrFails :
    (base (.loading ⟨.off, [], false⟩)).awake
    ∧ (base (.loading ⟨.off, [], false⟩)).dc.device = .loading ⟨.off, [], false⟩
    ∧ Answers (loading .off) (.headerRead 0x180)
    ∧ Answers (awaiting (.headerRead 0) (base (.loading ⟨.off, [], true⟩))) (.headerRead 0) :=
  ⟨by decide +kernel, by decide +kernel, answers_of (by decide +kernel), answers_of (by decide +kernel)⟩

theorem test_hyp_EntryToRunning (o : LoadOrigin) :
    (loading o).awake ∧ (loading o).dc.device
      = .loading ⟨o, [part boardHeader 0, part boardHeader 1, part boardHeader 2], true⟩
    ∧ Answers (loading o) (.headerRead 0x180)
    ∧ fails boardHeader = none := by
  cases o <;>
    exact ⟨by decide +kernel, by decide +kernel, answers_of (by decide +kernel), by decide +kernel⟩

theorem test_hyp_EntryToRunning_ok : ∃ n, parseHeader (headerOf ([part boardHeader 0, part boardHeader 1,
    part boardHeader 2] ++ [part boardHeader 3])) = .ok n := by
  have h : fails boardHeader = none := by decide +kernel
  unfold fails at h
  split at h
  · rename_i n hn; exact ⟨n, hn⟩
  · cases h

theorem test_hyp_EntryToRunningFromQuiet : ∀ st b o, (loading .quiet).standing st ≠ .bound b (.halting o) := by
  intro st
  have : ∀ x, (loading .quiet).standing x = .idle := by decide +kernel
  simp [this]

/-! ### Hypotheses of the Lane Writers' statements -/

/-- A slot read of lane 0 outstanding. -/
def slotReading (o : CurrentOrder) (w : Writer) : State :=
  awaiting (.slotRead 0 0x2000) (writing w (inPhase (.capturing o) run))

theorem test_hyp_SlotReadBindsOrGoesOn (o : CurrentOrder) (w : Writer)
    (ho : o = order ∨ o = orderWith fun q => { q with policy := .seek })
    (hw : w = .searching flight 0 0 true ∨ w = .searching flight 1 1 true
      ∨ w = .searching (ended 99) 0 0 true
      ∨ w = .dropping (dropped 1 false) ∨ w = .dropping (dropped 2 false)) :
    Answers (slotReading o w) (.slotRead 0 0x2000) ∧ (slotReading o w).working
    ∧ (slotReading o w).lw 0 = w ∧ ((slotReading o w).lr 0).staging.bytes = []
    ∧ (slotReading o w).standing flight.stream = .bound binding (.current false o) := by
  rcases ho with rfl | rfl <;> rcases hw with rfl | rfl | rfl | rfl | rfl <;>
    exact ⟨answers_of (by decide +kernel), by decide +kernel⟩

/-- The same of a HALTING stream. -/
theorem test_hyp_SlotReadBindsOrGoesOn_halting (w : Writer)
    (hw : w = .searching flight 0 0 true ∨ w = .searching (ended 99) 0 0 true
      ∨ w = .dropping (dropped 1 false)) :
    let s := awaiting (.slotRead 0 0x2000) (writing w (inPhase (.current true order) run))
    Answers s (.slotRead 0 0x2000) ∧ s.working ∧ s.lw 0 = w
    ∧ s.standing flight.stream = .bound binding (.current true order) ∧ binding.lane = 0
    ∧ ((staged [7] s).lr 0).staging.bytes = [7] := by
  rcases hw with rfl | rfl | rfl <;> exact ⟨answers_of (by decide +kernel), by decide +kernel⟩

theorem test_hyp_SlotReadBindsOrGoesOn_guards :
    (field (0x00030003 : Read16) 2 2 : Half) = field (0x00030003 : Read16) 0 2
    ∧ (field (0x00030004 : Read16) 2 2 : Half) ≠ field (0x00030004 : Read16) 0 2
    ∧ flight.ended = none ∧ 0 + 1 < order.params.pageCount ∧ order.params.pageCount ≤ 1 + 1
    ∧ order.params.policy = .strict := by decide +kernel

theorem test_hyp_SlotReadBindsOrGoesOn_notHalting :
    ∀ b o, (slotReading order (.dropping (dropped 1 false))).standing 0 ≠ .bound b (.halting o) := by
  have : (slotReading order (.dropping (dropped 1 false))).standing 0
      = .bound binding (.capturing order) := by decide +kernel
  simp [this]

/-- The frame in flight of a context holds its slot and flags until the writer is IDLE (R1, R56), a bound
frame that drops and one forgotten since among them. -/
theorem test_frameInFlight :
    frameInFlight? 0 (inPhase (.capturing order) run) = none
    ∧ frameInFlight? 0 presenting = some ⟨none, 0⟩
    ∧ frameInFlight? 0 (writing (.dropping ⟨{ ended 99 with truncated := true }, some 1, 1, true, none, false⟩)
        (inPhase (.capturing order) run)) = some ⟨some 1, 4⟩
    ∧ frameInFlight? 0 (writing (.dropping ⟨flight, some 1, 1, false, none, true⟩) run)
      = some ⟨some 1, 0⟩ := by decide +kernel

/-- A data write of lane 0 outstanding. -/
def dataWriting (p : Phase) (w : Writer) : State :=
  awaiting (.dataWrite 0 0x1000 [7]) (writing w (inPhase p run))

theorem test_hyp_DataWriteDoneAndTheFrameEnd (p : Phase) (w : Writer)
    (hp : p = .capturing order ∨ p = .halting (orderWith fun q => { q with gate := .atOrAbove })
      ∨ p = .faulted .writeFault)
    (hw : w = .placing flight (place 1) ∨ w = .closing (ended 99) (place 2)
      ∨ w = .closing flight (place 1) ∨ w = .closing (ended 99) (place 1)
      ∨ w = .dropping (dropped 2 true) ∨ w = .dropping (dropped 1 true) ∨ w = .dropping (dropped 1 false)
      ∨ w = .dropping { dropped 1 false with retirement := some (128, half) }
      ∨ w = .dropping { dropped 1 true with disowned := true }
      ∨ w = .dropping { dropped 1 false with retirement := some (128, half), disowned := true }) :
    Answers (dataWriting p w) (.dataWrite 0 0x1000 [7]) ∧ (dataWriting p w).working
    ∧ (dataWriting p w).lw 0 = w ∧ (dataWriting p w).standing 0 = .bound binding p := by
  rcases hp with rfl | rfl | rfl <;>
    rcases hw with rfl | rfl | rfl | rfl | rfl | rfl | rfl | rfl | rfl | rfl <;>
    exact ⟨answers_of (by decide +kernel), by decide +kernel⟩

/-- An owned drop whose stream is not HALTING. -/
theorem test_hyp_DataWriteDoneAndTheFrameEnd_notHalting :
    ∀ b o, (dataWriting (.capturing order) (.dropping (dropped 1 false))).standing 0 ≠ .bound b (.halting o) := by
  have : (dataWriting (.capturing order) (.dropping (dropped 1 false))).standing 0
      = .bound binding (.capturing order) := by decide +kernel
  simp [this]

/-- A CLOSING writer with END reported whose decision is due, and one with writes outstanding. -/
theorem test_hyp_DataWriteDoneAndTheFrameEnd_decision (halting : Bool) (n : Nat) (hn : n = 0 ∨ n = 1) :
    let s := writing (.closing (ended 99) (place n)) (inPhase (.current halting order) run)
    s.working ∧ s.lw 0 = .closing (ended 99) (place n) ∧ (ended 99).ended = some ⟨99, false, false⟩
    ∧ s.standing (ended 99).stream = .bound binding (.current halting order) ∧ binding.lane = 0
    ∧ ((place n).outstanding = 0 ↔ n = 0) := by
  rcases hn with rfl | rfl <;> cases halting <;> decide +kernel

/-- The gate of a frame on either side of its level, 100. -/
theorem test_hyp_DataWriteDoneAndTheFrameEnd_gate :
    applyGate .atOrAbove 100 100 = some 0 ∧ applyGate .atOrAbove 100 99 = none
    ∧ applyGate .below 100 99 = some 1 ∧ applyGate .below 100 100 = none
    ∧ applyGate .none 100 5 = some 5 := by decide +kernel

/-- A write of lane 0's commit outstanding. -/
def committing (t : Txn) (p : Phase) (w : Writer) : State := awaiting t (writing w (inPhase p run))

theorem test_hyp_CommitWritesAndCompletion_metadata (p : Phase) (w : Writer)
    (hp : p = .capturing order ∨ p = .halting order ∨ p = .faulted .writeFault)
    (hw : w = .committing flight (place 0) .metadata 0 ∨ w = .dropping (dropped 1 false)) :
    Answers (committing (.metadataWrite 0 0x2004 meta0) p w) (.metadataWrite 0 0x2004 meta0)
    ∧ (committing (.metadataWrite 0 0x2004 meta0) p w).working
    ∧ (committing (.metadataWrite 0 0x2004 meta0) p w).lw 0 = w
    ∧ (committing (.metadataWrite 0 0x2004 meta0) p w).standing 0 = .bound binding p := by
  rcases hp with rfl | rfl | rfl <;> rcases hw with rfl | rfl <;>
    exact ⟨answers_of (by decide +kernel), by decide +kernel⟩

/-- A frame abandoned in COMMITTING awaits one write, its stream FAULTED. -/
theorem test_hyp_CommitWritesAndCompletion_abandoned :
    (Writer.committing flight (place 0) .metadata 0).awaited = 1
    ∧ ((Writer.committing flight (place 0) .fill 0).dropped 1).map DroppedFrame.outstanding = some 1
    ∧ ∀ b o, (committing (.fillWrite 0 0x2000 4) (.faulted .writeFault)
        (.dropping (dropped 1 false))).standing 0 ≠ .bound b (.halting o) := by
  have h : (committing (.fillWrite 0 0x2000 4) (.faulted .writeFault)
      (.dropping (dropped 1 false))).standing 0 = .bound binding (.faulted .writeFault) := by decide +kernel
  refine ⟨rfl, rfl, fun b o e => ?_⟩
  rw [h] at e; cases e

theorem test_hyp_CommitWritesAndCompletion_fill (p : Phase) (w : Writer)
    (hp : p = .capturing order ∨ p = .capturing (orderWith fun q => { q with kind := .single })
      ∨ p = .capturing (orderWith fun q => { q with kind := .count, target := 1 })
      ∨ p = .capturing (orderWith fun q => { q with reportInterval := 0 }) ∨ p = .halting order
      ∨ p = .faulted .writeFault)
    (hw : w = .committing flight (place 0) .fill 0 ∨ w = .dropping (dropped 1 false)) :
    Answers (committing (.fillWrite 0 0x2000 4) p w) (.fillWrite 0 0x2000 4)
    ∧ (committing (.fillWrite 0 0x2000 4) p w).working
    ∧ (committing (.fillWrite 0 0x2000 4) p w).lw 0 = w
    ∧ (committing (.fillWrite 0 0x2000 4) p w).standing 0 = .bound binding p := by
  rcases hp with rfl | rfl | rfl | rfl | rfl | rfl <;> rcases hw with rfl | rfl <;>
    exact ⟨answers_of (by decide +kernel), by decide +kernel⟩

theorem test_hyp_CommitWritesAndCompletion_guards :
    order.counters.committed + 1 = 1 ∧ order.commitsSince + 1 = order.params.reportInterval := by
  decide +kernel

/-! ### Hypotheses of the reports' statements -/

/-- A transaction of the Report Writer outstanding, with changes to it. -/
def reporting (t : Txn) (f : Reporter → Reporter) (s : State) : State :=
  awaiting t { s with rw := f s.rw }

theorem test_hyp_StatusWritesDone_device :
    (∀ stage ∈ [JobStage.awaitWrites 128 1, .anchorRead true],
      let t : Txn := .deviceHalfWrite 1 false 128 half
      let s := working stage (awaiting t run)
      (s.dc.resetAsserted = false ∧ s.expired t.client t.direction = 0)
      ∧ (oldest t.client t.direction s).map Entry.txn = some t ∧ s.working
      ∧ s.walker.inHand = some ⟨⟨0, .anchor⟩, stage⟩) := by decide +kernel

theorem test_hyp_StatusWritesDone_stream :
    let t : Txn := .streamStatusWrite 0x400 ⟨Context.reset, 1⟩
    (∀ n ∈ [1, 2],
      (let s := reporting t (fun r => { r with publication := some ⟨[(0, none)], .status n, false⟩ }) run;
        (s.dc.resetAsserted = false ∧ s.expired t.client t.direction = 0)
        ∧ (oldest t.client t.direction s).map Entry.txn = some t ∧ s.rw.initial = .complete)
      ∧ ∀ u ∈ [0, 1],
        (let s := reporting t (fun r => { r with initial := .pending n false, laneUnanswered := u }) run;
          (oldest t.client t.direction s).map Entry.txn = some t ∧ s.rw.initial = .pending n false
          ∧ s.rw.laneUnanswered = u)) := by decide +kernel

theorem test_hyp_StatusWritesDone_lane :
    let t : Txn := .laneStatusWrite 0xA00 ⟨.off, .zero, 0⟩
    ∀ n ∈ [0, 1], ∀ u ∈ [1, 2],
      let s := reporting t (fun r => { r with initial := .pending n false, laneUnanswered := u }) run
      (s.dc.resetAsserted = false ∧ s.expired t.client t.direction = 0)
      ∧ (oldest t.client t.direction s).map Entry.txn = some t ∧ s.rw.initial = .pending n false
      ∧ s.rw.laneUnanswered = u := by decide +kernel

theorem test_hyp_PublicationTakesTheReadyStreams :
    allStreams.filter (fun st => (pend 3 run).isPending st && readyStream (pend 3 run) st) = [3]
    ∧ (pend 3 run).awake ∧ (pend 3 run).working ∧ (pend 3 run).rw.publication = none
    ∧ (pend 3 run).rw.initial = .complete
    ∧ allStreams.filter (fun st => run.isPending st && readyStream run st) = []
    ∧ ¬ (base .quiet).working := by decide +kernel

/-- A Summary's write outstanding, stream 0 holding a link step. -/
def summing (closing : Bool) (d : DeviceState) : State :=
  reporting (.summaryWrite 0xC00 ⟨1, .running, 0⟩)
    (fun r => { r with publication := some ⟨if closing then [] else [(0, some 128)], .summary, closing⟩ })
    (inPhase (.fetching (.link 128 false)) (base d))

theorem test_hyp_SummaryCompletesThePublication (closing : Bool) (d : DeviceState)
    (hd : d = .running ∨ d = .quiescing) :
    Answers (summing closing d) (.summaryWrite 0xC00 ⟨1, .running, 0⟩) ∧ (summing closing d).working
    ∧ (summing closing d).rw.initial = .complete ∧ (summing closing d).rw.publication
      = some ⟨if closing then [] else [(0, some 128)], .summary, closing⟩ := by
  cases closing <;> rcases hd with rfl | rfl <;>
    exact ⟨answers_of (by decide +kernel), by decide +kernel⟩

/-- A LINK job for each published stream that still holds its link step, in the batch's order; none for
one with a queued job, nor for one whose step is another. -/
theorem test_summary_linkJobs :
    let holds (st : StreamId) (a : Addr) (s : State) : State :=
      s.setStanding st (.bound ⟨0, 0, 0⟩ (.fetching (.link a false)))
    let batch : List (StreamId × Option Addr) :=
      [(1, some 128), (3, some 256), (5, some 384), (7, some 512), (9, none)]
    let s := reporting (.summaryWrite 0xC00 ⟨1, .running, 0⟩)
      (fun r => { r with publication := some ⟨batch, .summary, false⟩ })
      (holds 1 128 (holds 3 256 (holds 5 640 (holds 7 512 (queued [⟨7, .anchor⟩] run)))))
    (following .summaryWriteDone s).walker.queue = [⟨7, .anchor⟩, ⟨1, .link⟩, ⟨3, .link⟩]
    ∧ (following .summaryWriteDone s).standing 7 = .bound ⟨0, 0, 0⟩ (.fetching (.link 512 true))
    ∧ (following .summaryWriteDone s).standing 5 = .bound ⟨0, 0, 0⟩ (.fetching (.link 640 false)) := by
  decide +kernel

theorem test_hyp_SummaryCompletesTheInitialPublication :
    let t : Txn := .summaryWrite 0xC00 ⟨0, .running, 0⟩
    let s := reporting t (fun r => { r with initial := .pending 0 true }) run
    (s.dc.resetAsserted = false ∧ s.expired t.client t.direction = 0)
    ∧ (oldest t.client t.direction s).map Entry.txn = some t ∧ s.rw.initial = .pending 0 true := by
  decide +kernel

theorem test_hyp_DrainOfQuiescing :
    let at' (d : Drain) : State := { base .quiescing with rw := { (base .quiescing).rw with drain := d } }
    (at' .notBegun).awake ∧ (at' .notBegun).dc.device = .quiescing ∧ (∀ k, (at' .notBegun).lw k = .idle)
    ∧ (at' .notBegun).walker.inHand = none ∧ (∀ st, (at' .publications).isPending st = false)
    ∧ (at' .publications).rw.publication = none ∧ (at' .publications).rw.initial = .complete
    ∧ (at' .publications).rw.laneUnanswered = 0 ∧ (at' .publications).rw.drain = .publications
    ∧ (at' .laneRefresh).rw.drain = .laneRefresh ∧ (at' .laneRefresh).rw.laneUnanswered = 0
    ∧ run.dc.device ≠ .quiescing := by decide +kernel

/-! ### Hypotheses of the faults' statements -/

theorem test_hyp_FrameFaultsRetireTheOrder (p : Phase) (hp : p = .capturing order ∨ p = .halting order) :
    (∀ t w, (t = .slotRead 0 0x2000 ∧ w = .searching flight 0 0 true)
      ∨ (t = .dataWrite 0 0x1000 [7] ∧ w = .placing flight (place 1))
      ∨ (t = .dataWrite 0 0x1000 [7] ∧ w = .closing flight (place 2))
      ∨ (t = .metadataWrite 0 0x2004 meta0 ∧ w = .committing flight (place 0) .metadata 0)
      ∨ (t = .fillWrite 0 0x2000 4 ∧ w = .committing flight (place 0) .fill 0) →
      Answers (committing t p w) t ∧ (committing t p w).working ∧ (committing t p w).lw 0 = w
      ∧ (committing t p w).standing flight.stream = .bound binding p) := by
  rintro t w (⟨rfl, rfl⟩ | ⟨rfl, rfl⟩ | ⟨rfl, rfl⟩ | ⟨rfl, rfl⟩ | ⟨rfl, rfl⟩) <;>
    rcases hp with rfl | rfl <;> exact ⟨answers_of (by decide +kernel), by decide +kernel⟩

/-- A fault on what a DROPPING writer awaits: its stream forgotten, FAULTED, or its order still current. -/
theorem test_hyp_FrameFaultsRetireTheOrder_dropping (t : Txn) (d : DroppedFrame) (p : Phase)
    (ht : t = .slotRead 0 0x2000 ∨ t = .dataWrite 0 0x1000 [7] ∨ t = .metadataWrite 0 0x2004 meta0
      ∨ t = .fillWrite 0 0x2000 4)
    (hd : d = dropped 1 false ∨ d = dropped 2 true ∨ d = { dropped 1 false with disowned := true }
      ∨ d = { dropped 2 false with retirement := some (128, half) })
    (hp : p = .current false order ∨ p = .current true order ∨ p = .faulted .writeFault) :
    Answers (committing t p (.dropping d)) t ∧ (committing t p (.dropping d)).working
    ∧ (committing t p (.dropping d)).lw 0 = .dropping d ∧ d.outstanding ≠ 0
    ∧ (committing t p (.dropping d)).standing d.frame.stream = .bound binding p := by
  rcases ht with rfl | rfl | rfl | rfl <;> rcases hd with rfl | rfl | rfl | rfl <;>
    rcases hp with rfl | rfl | rfl <;> exact ⟨answers_of (by decide +kernel), by decide +kernel⟩

theorem test_hyp_DeviceHalfAndOrderReadFaults (p : Phase) (w : Writer) (disowned : Bool)
    (hp : p = .faulted .readFault ∨ p = .fetching (.fetch 128) ∨ p = .capturing order)
    (hw : w = .idle ∨ w = .searching flight 0 0 true ∨ w = .searching flight 0 0 false
      ∨ w = .placing flight (place 0) ∨ w = .closing flight (place 2)
      ∨ w = .committing flight (place 0) .fill 0 ∨ w = .dropping (dropped 1 true)) :
    Answers (committing (.deviceHalfWrite 0 disowned 128 half) p w) (.deviceHalfWrite 0 disowned 128 half)
    ∧ (committing (.deviceHalfWrite 0 disowned 128 half) p w).working
    ∧ (committing (.deviceHalfWrite 0 disowned 128 half) p w).standing 0 = .bound binding p
    ∧ (committing (.deviceHalfWrite 0 disowned 128 half) p w).walker.inHand = none
    ∧ (committing (.deviceHalfWrite 0 disowned 128 half) p w).lw binding.lane = w
    ∧ (working (.awaitWrites 128 1) (committing (.deviceHalfWrite 0 disowned 128 half) p w)).walker.inHand
      = some ⟨⟨0, .anchor⟩, .awaitWrites 128 1⟩ := by
  cases disowned <;> rcases hp with rfl | rfl | rfl <;>
    rcases hw with rfl | rfl | rfl | rfl | rfl | rfl | rfl <;>
    exact ⟨answers_of (by decide +kernel), by decide +kernel⟩

theorem test_hyp_BoardFaultsBreakTheDevice (t : Txn)
    (ht : t = .streamStatusWrite 0x400 ⟨Context.reset, 1⟩ ∨ t = .laneStatusWrite 0xA00 ⟨.off, .zero, 0⟩
      ∨ t = .summaryWrite 0xC00 ⟨1, .running, 0⟩ ∨ t = .anchorRead 0x200) :
    Answers (awaiting t (working (.anchorRead true) run)) t
    ∧ (awaiting t (working (.anchorRead true) run)).working
    ∧ (awaiting t (working (.anchorRead true) run)).walker.inHand
      = some ⟨⟨0, .anchor⟩, .anchorRead true⟩
    ∧ ¬ (awaiting t (base .quiet)).working := by
  rcases ht with rfl | rfl | rfl | rfl <;>
    exact ⟨answers_of (by decide +kernel), by decide +kernel⟩

/-! ### Hypotheses of the laws' statements -/

/-- The laws hold of the reset state (a statement of its own) and a step from it answers a next state. -/
theorem test_hyp_laws_step : ∃ s', step State.reset = .next s' := ⟨_, rfl⟩

theorem test_hyp_laws_ports : PortLimits State.reset ∧ StagingFits State.reset ∧ QueueLaw State.reset :=
  ⟨by unfold PortLimits; decide +kernel, by unfold StagingFits Staging.fits; decide +kernel,
    by unfold QueueLaw; decide +kernel⟩

theorem test_hyp_laws_device : BoardAligned State.reset ∧ SnapshotLaw State.reset ∧ SnapshotLaw run :=
  ⟨by unfold BoardAligned; decide +kernel, rfl, nofun⟩

theorem test_hyp_laws_idle :
    BindingLaw State.reset ∧ ReporterLaw State.reset ∧ QuietLaw State.reset ∧ DrainedLaw State.reset
      ∧ FrameLaw State.reset ∧ HeldLaw State.reset := by
  have hs : ∀ st, State.reset.standing st = .idle := by decide +kernel
  have hw : ∀ k, State.reset.lw k = .idle := by decide +kernel
  refine ⟨?_, ?_, ⟨fun _ => hw, ?_⟩, ⟨?_, ?_, ?_⟩, fun _ => ⟨?_, ?_⟩, ?_⟩
  · intro a b lane tag h; simp [holdsPair, hs, Standing.binding?] at h
  · intro t ht; exact absurd ht (by show t ∉ ([] : List Txn); simp)
  · intro p hp; cases hp
  · rintro - st (⟨t, ht, -⟩ | ⟨e, he, -⟩)
    · exact absurd ht (by show t ∉ ([] : List Txn); simp)
    · exact absurd he (by show e ∉ ([] : List Entry); simp)
  · rintro (h | h | ⟨l, h, -⟩) <;> cases h
  · intro p hp; cases hp
  · intro k st h; simp [hw, Writer.stream?] at h
  · intro st b p o h; simp [hs] at h
  · intro st o h; simp [State.order?, hs, Standing.order?] at h

/-- QUIET with nothing queued, in hand or outstanding. -/
theorem test_hyp_laws_ledger (s : State) (h : s = State.reset ∨ s = base .quiet) :
    LedgerLaw s ∧ ¬ s.working ∧ (base .quiet).dc.device = .quiet ∧ LedgerLaw run := by
  have empty : ∀ e : Entry, e ∈ ([] : List Entry) → e.txn.isHeaderRead = true := by simp
  have running : LedgerLaw run := fun _ => ⟨fun c => absurd (Or.inl rfl) c, by decide +kernel, fun _ =>
    ⟨by decide +kernel, by decide +kernel, by decide +kernel, by decide +kernel, by decide +kernel, nofun, nofun⟩⟩
  rcases h with rfl | rfl
  · have hw : ¬ State.reset.working := by decide
    exact ⟨fun _ => ⟨fun _ => ⟨rfl, rfl, empty⟩, by decide +kernel, fun c => absurd c hw⟩, hw, rfl, running⟩
  · have hw : ¬ (base .quiet).working := by unfold State.working; decide +kernel
    exact ⟨fun _ => ⟨fun _ => ⟨rfl, rfl, empty⟩, by decide +kernel, fun c => absurd c hw⟩, hw, rfl, running⟩

/-- An order with fewer held than lost, and no lost count at its last value. -/
theorem test_hyp_laws_held :
    let s := inPhase (.capturing { order with counters := { order.counters with held := 1, lost := 4294967294 } }) run
    HeldLaw s ∧ ∀ st o, s.order? st = some o → o.counters.lost.toNat < 4294967295 := by
  intro s
  have h : ∀ st, (s.order? st).all (fun o => decide (o.counters.held.toNat ≤ o.counters.lost.toNat
      ∧ o.counters.lost.toNat < 4294967295)) = true := by decide +kernel
  have h' : ∀ st o, s.order? st = some o →
      o.counters.held.toNat ≤ o.counters.lost.toNat ∧ o.counters.lost.toNat < 4294967295 := by
    intro st o ho; simpa [ho] using h st
  exact ⟨fun st o ho => (h' st o ho).1, fun st o ho => (h' st o ho).2⟩

theorem test_hyp_laws_lock : LockLaw State.reset := by
  intro k
  have h : (State.reset.lr k).lock = .off := by revert k; decide +kernel
  have hf : (State.reset.lr k).frame = none := by revert k; decide +kernel
  exact ⟨by rw [h]; trivial, fun _ => hf⟩

end Sys2Proof.Tests
end

/-! PROOFS. The link step (R9, R48, R49): the request it presents, and what LINK_READ_DONE and
LINK_READ_FAULT make of the stream that holds it. -/

namespace Sys2Proof.Machine

/-! ### A bound stream put in another of its states -/

/-- The state once a stream bound by `b` has been put in the phase `p` and pended. -/
def State.movedTo (s : State) (st : StreamId) (b : Binding) (p : Phase) : State :=
  { s.setStanding st (.bound b p) with
    rw := { s.rw with pendingSet := s.rw.pendingSet.set st.val true } }

section
variable {s : State} {st : StreamId} {b : Binding} {p : Phase}

theorem pend_setStanding_bound (hw : s.working) (q : Phase) :
    pend st (s.setStanding st (.bound b q)) = s.movedTo st b q :=
  pend_of_working st hw

theorem enter_eq_movedTo (hw : s.working) (hs : s.standing st = .bound b p) (q : Phase) :
    enter st q s = s.movedTo st b q := by
  simp only [enter, hs, pend_setStanding_bound hw]

/-- The first fault of a bound stream is the fault step of R152. -/
theorem streamFault_eq_movedTo (hw : s.working) (hs : s.standing st = .bound b p)
    (hp : ∀ c, p ≠ .faulted c) (code : FaultCode) :
    streamFault st code s = s.movedTo st b (.faulted code) := by
  cases p with
  | faulted c => exact absurd rfl (hp c)
  | _ => simp only [streamFault, hs, pend_setStanding_bound hw]

end

/-! ### Asking for a job -/

theorem hasJob_eq_false_iff (st : StreamId) (q : List Job) :
    hasJob st q = false ↔ ∀ j ∈ q, j.stream ≠ st := by
  simp [hasJob]

/-- A job asked for joins the tail of the queue in RUNNING, unless the stream has one there (R34, R35). -/
theorem askJob_eq (st : StreamId) (kind : JobKind) (s : State) :
    askJob st kind s = { s with walker := { s.walker with
      queue := if s.dc.device = .running ∧ ∀ j ∈ s.walker.queue, j.stream ≠ st then
        s.walker.queue ++ [⟨st, kind⟩] else s.walker.queue } } := by
  simp only [askJob, hasJob_eq_false_iff]
  split <;> rfl

/-! ### The stream that holds a link step -/

/-- The stream, bound by `b`, is FETCHING with the link step of order `a` or PARKED on that order. -/
def State.linkHeld (s : State) (st : StreamId) (b : Binding) (a : Addr) : Prop :=
  (∃ ready, s.standing st = .bound b (.fetching (.link a ready))) ∨ s.standing st = .bound b (.parked a)

section
variable {s : State} {st : StreamId} {b : Binding} {a : Addr}

theorem holdsLink_of_fetching {ready : Bool}
    (hs : s.standing st = .bound b (.fetching (.link a ready))) : holdsLink st a s = .fetching := by
  simp [holdsLink, hs]

theorem holdsLink_of_parked (hs : s.standing st = .bound b (.parked a)) :
    holdsLink st a s = .parked := by
  simp [holdsLink, hs]

theorem holdsLink_ne_neither (h : s.linkHeld st b a) : holdsLink st a s ≠ .neither := by
  rcases h with ⟨ready, hs⟩ | hs
  · simp [holdsLink_of_fetching hs]
  · simp [holdsLink_of_parked hs]

/-- A stream that holds a link step is bound and not FAULTED. -/
theorem standing_of_linkHeld (h : s.linkHeld st b a) :
    ∃ p, s.standing st = .bound b p ∧ ∀ c, p ≠ .faulted c := by
  rcases h with ⟨_, hs⟩ | hs <;> exact ⟨_, hs, by simp⟩

/-! ### What a link makes of the stream that holds it (R9, R48, R49) -/

/-- Link 0 parks a FETCHING stream. -/
theorem followLink_zero_of_fetching (hw : s.working) {ready : Bool}
    (hs : s.standing st = .bound b (.fetching (.link a ready))) :
    followLink st a 0 s = s.movedTo st b (.parked a) := by
  simp only [followLink, holdsLink_of_fetching hs, if_true, enter_eq_movedTo hw hs]

/-- Link 0 leaves a PARKED stream as it is. -/
theorem followLink_zero_of_parked (hs : s.standing st = .bound b (.parked a)) :
    followLink st a 0 s = s := by
  simp only [followLink, holdsLink_of_parked hs, if_true]

/-- A nonzero link does the same to a PARKED stream as to a FETCHING one: it is followed if aligned, and
faults the stream if not. -/
theorem followLink_nonzero (h : s.linkHeld st b a) {link : Addr} (h0 : link ≠ 0) :
    followLink st a link s = if aligned128 link then
      askJob st .fetch (enter st (.fetching (.fetch link)) s) else streamFault st .linkBad s := by
  rcases h with ⟨ready, hs⟩ | hs
  · simp only [followLink, holdsLink_of_fetching hs, h0, if_false]
  · simp only [followLink, holdsLink_of_parked hs, h0, if_false]

theorem aligned128_iff (x : Addr) : aligned128 x = true ↔ x.toNat % 128 = 0 := by
  simp [aligned128]

theorem followLink_misaligned (hw : s.working) (h : s.linkHeld st b a) {link : Addr} (h0 : link ≠ 0)
    (hl : link.toNat % 128 ≠ 0) : followLink st a link s = s.movedTo st b (.faulted .linkBad) := by
  obtain ⟨p, hs, hp⟩ := standing_of_linkHeld h
  rw [followLink_nonzero h h0, if_neg (mt (aligned128_iff link).mp hl), streamFault_eq_movedTo hw hs hp]

theorem followLink_aligned (hw : s.working) (h : s.linkHeld st b a) {link : Addr} (h0 : link ≠ 0)
    (hl : link.toNat % 128 = 0) :
    followLink st a link s = askJob st .fetch (s.movedTo st b (.fetching (.fetch link))) := by
  obtain ⟨p, hs, _⟩ := standing_of_linkHeld h
  rw [followLink_nonzero h h0, if_pos ((aligned128_iff link).mpr hl), enter_eq_movedTo hw hs]

end

/-! ### The link read and its two results -/

/-- In RUNNING and QUIESCING a link step not yet issued is the walker's request (R48, R120). -/
theorem request_walker_linkRead {s : State} {job : Job} {a : Addr} (hw : s.working)
    (hj : s.walker.inHand = some ⟨job, .linkRead a false⟩) :
    request walkerClient s = some (.linkRead a) := by
  have hr : walkerRequest s = some (.linkRead a) := by
    rcases hw with hd | hd <;> simp [walkerRequest, hd, hj]
  simpa [request, walkerClient] using hr

section
variable {s : State} {address a : Addr} {job : Job}

theorem linkReader_of_issued (hj : s.walker.inHand = some ⟨job, .linkRead a true⟩) :
    linkReader s = some (job.stream, a) := by
  simp [linkReader, hj]

theorem linkReadOk_of_issued (hw : s.working) (hj : s.walker.inHand = some ⟨job, .linkRead a true⟩)
    (data : Read16) : linkReadOk data s = endJob (followLink job.stream a (linkField data) s) := by
  simp only [linkReadOk, linkReader_of_issued hj, if_pos hw]

theorem linkReadFaulted_of_issued {b : Binding} (hw : s.working)
    (hj : s.walker.inHand = some ⟨job, .linkRead a true⟩) (h : s.linkHeld job.stream b a) :
    linkReadFaulted s = endJob (s.movedTo job.stream b (.faulted .readFault)) := by
  obtain ⟨p, hs, hp⟩ := standing_of_linkHeld h
  simp only [linkReadFaulted, linkReader_of_issued hj, if_pos (And.intro hw (holdsLink_ne_neither h)),
    streamFault_eq_movedTo hw hs hp]

/-- LINK_READ_DONE that ends the read of the job in hand: the link is followed, and the job ends. -/
theorem exec_linkReadDone (ht : Answers s (.linkRead address)) (hw : s.working)
    (hj : s.walker.inHand = some ⟨job, .linkRead a true⟩) (data : Read16) :
    exec (.linkReadDone data) s = .next
      (endJob (followLink job.stream a (linkField data) (s.ended (.linkRead address)))) := by
  have hw' : (s.ended (.linkRead address)).working := hw
  calc exec (.linkReadDone data) s
      = .next (linkReadOk data (s.ended (.linkRead address))) :=
        (live_awake _ ht.awake).trans (congrArg _ (respond_answers _ ht rfl))
    _ = _ := congrArg _ (linkReadOk_of_issued hw' hj data)

/-- LINK_READ_FAULT that ends the read of the job in hand: the stream is FAULTED READ_FAULT, and the job
ends. -/
theorem exec_linkReadFault {b : Binding} (ht : Answers s (.linkRead address)) (hw : s.working)
    (hj : s.walker.inHand = some ⟨job, .linkRead a true⟩) (h : s.linkHeld job.stream b a) :
    exec .linkReadFault s = .next
      (endJob ((s.ended (.linkRead address)).movedTo job.stream b (.faulted .readFault))) := by
  have hw' : (s.ended (.linkRead address)).working := hw
  calc exec .linkReadFault s
      = .next (linkReadFaulted (s.ended (.linkRead address))) :=
        (live_awake _ ht.awake).trans (congrArg _ (respond_answers _ ht rfl))
    _ = _ := congrArg _ (linkReadFaulted_of_issued hw' hj h)

end

/-- Settles O39: the read presented, then the four results of the read by the link and by how the stream
holds it. -/
theorem linkReadMovesTheStream : Obligations.LinkReadMovesTheStream := by
  unfold Obligations.LinkReadMovesTheStream
  refine ⟨fun s job a hw hj => ⟨request_walker_linkRead hw hj, rfl, rfl, rfl⟩, ?_⟩
  rintro s _ address a job b data rfl ht hw hj hheld
  have hdone := exec_linkReadDone ht hw hj data
  have hw' : (s.ended (.linkRead address)).working := hw
  have hheld' : (s.ended (.linkRead address)).linkHeld job.stream b a := hheld
  refine ⟨fun (h0 : linkField data = 0) hnot => ?fetchingZero,
    fun (h0 : linkField data = 0) hs => ?parkedZero,
    fun (h0 : linkField data ≠ 0) (hl : (linkField data).toNat % 128 ≠ 0) => ?misaligned,
    fun (h0 : linkField data ≠ 0) (hl : (linkField data).toNat % 128 = 0) => ?aligned,
    exec_linkReadFault ht hw hj hheld⟩
  case fetchingZero =>
    obtain ⟨ready, hs⟩ := hheld.resolve_right hnot
    rw [hdone, h0, followLink_zero_of_fetching hw' hs]
    rfl
  case parkedZero =>
    have hs' : (s.ended (.linkRead address)).standing job.stream = .bound b (.parked a) := hs
    rw [hdone, h0, followLink_zero_of_parked hs']
    rfl
  case misaligned =>
    rw [hdone, followLink_misaligned hw' hheld' h0 hl]
    rfl
  case aligned =>
    rw [hdone, followLink_aligned hw' hheld' h0 hl, askJob_eq]
    rfl

end Sys2Proof.Machine

/-! PROOFS. A write to ATTEND (R32, R172): what an attention request makes of the walker queue, and the three
results of the write. -/

namespace Sys2Proof.Machine

/-! ### The walker queue after an attention request -/

section
variable {st : StreamId} {q : List Job}

/-- The request of a stream without a queued job joins the tail. -/
theorem attendQueue_of_no_job (h : ∀ j ∈ q, j.stream ≠ st) :
    attendQueue st q = q ++ [⟨st, .anchor⟩] := by
  simp only [attendQueue, (hasJob_eq_false_iff st q).mpr h, Bool.false_eq_true, if_false]

/-- Turning the jobs of a stream into ANCHOR jobs leaves a list that holds none of them. -/
theorem map_toAnchor_of_no_job (h : ∀ j ∈ q, j.stream ≠ st) :
    q.map (fun j => if j.stream = st then (⟨st, .anchor⟩ : Job) else j) = q :=
  (List.map_congr_left fun j hj => if_neg (h j hj)).trans (List.map_id' q)

/-- The request of a stream with a queued job makes it an ANCHOR job in its place, whatever its kind; an
ANCHOR job there absorbs the request. -/
theorem attendQueue_of_job {before after : List Job} (kind : JobKind)
    (h : ∀ j ∈ before ++ after, j.stream ≠ st) :
    attendQueue st (before ++ ⟨st, kind⟩ :: after) = before ++ ⟨st, .anchor⟩ :: after := by
  have hjob : hasJob st (before ++ ⟨st, kind⟩ :: after) = true := by simp [hasJob_iff]
  have hbefore := map_toAnchor_of_no_job fun j hj => h j (List.mem_append_left after hj)
  have hafter := map_toAnchor_of_no_job fun j hj => h j (List.mem_append_right before hj)
  rw [attendQueue, if_pos hjob, List.map_append, List.map_cons, hbefore, hafter, if_pos rfl]

end

/-! ### The three results of the write -/

section
variable {s : State} {v : Word}

theorem attendWrite_of_not_running (hd : s.dc.device ≠ .running) :
    attendWrite v s = s.setResult .ignored := if_neg hd

theorem attendWrite_of_no_stream (hd : s.dc.device = .running) (hv : 24 ≤ v.toNat) :
    attendWrite v s = s.setResult .badStream := by
  rw [attendWrite, if_pos hd, dif_neg (Nat.not_lt.mpr hv)]

theorem attendWrite_of_stream (hd : s.dc.device = .running) {st : StreamId} (hv : v.toNat = st.val) :
    attendWrite v s = (attend st s).setResult .taken := by
  have hlt : v.toNat < 24 := hv ▸ st.isLt
  have hst : (⟨v.toNat, hlt⟩ : StreamId) = st := Fin.ext hv
  rw [attendWrite, if_pos hd, dif_pos hlt, hst]

theorem exec_attendWrite (ha : s.awake) : exec (.attendWrite v) s = .next (attendWrite v s) :=
  live_awake _ ha

/-- A stream number written in RUNNING is taken, and of the rest only the walker queue changes. -/
theorem exec_attendWrite_of_stream (ha : s.awake) (hd : s.dc.device = .running) {st : StreamId}
    (hv : v.toNat = st.val) : exec (.attendWrite v) s = .next { s with
      dc := { s.dc with result := .taken }
      walker := { s.walker with queue := attendQueue st s.walker.queue } } := by
  rw [exec_attendWrite ha, attendWrite_of_stream hd hv]
  rfl

end

/-- Settles O10: by the device state, the value written, and whether the stream has a queued job. -/
theorem attendWriteAddsAnAnchorJob : Obligations.AttendWriteAddsAnAnchorJob := by
  unfold Obligations.AttendWriteAddsAnAnchorJob
  intro s v ha
  refine ⟨fun hd => ?ignored, fun hd hv => ?badStream, fun hd st hv =>
    ⟨fun hnone => ?added, fun before kind after hq hrest => ?turned⟩⟩
  case ignored =>
    rw [exec_attendWrite ha, attendWrite_of_not_running hd]
    rfl
  case badStream =>
    rw [exec_attendWrite ha, attendWrite_of_no_stream hd hv]
    rfl
  case added => rw [exec_attendWrite_of_stream ha hd hv, attendQueue_of_no_job hnone]
  case turned => rw [exec_attendWrite_of_stream ha hd hv, hq, attendQueue_of_job kind hrest]

end Sys2Proof.Machine

/-! PROOFS. CAUSE (R149, R161, R162): what a write clears and what a raise sets, and the interrupt output over the
result. -/

namespace Sys2Proof.Machine

/-! ### The four bits of CAUSE -/

/-- A write clears exactly the bits for which the written value holds a 1. -/
theorem getLsbD_clearedCause (cause : BitVec 4) (v : Word) {i : Nat} (hi : i < 4) :
    (cause &&& ~~~ v.setWidth 4).getLsbD i = (cause.getLsbD i && !v.getLsbD i) := by
  simp [hi]

/-- The first cause is raised alone. -/
theorem raisedCause_zero (bit : BitVec 4) : raisedCause 0 bit = bit := by
  simp [raisedCause]

/-- A cause raised over another one sets SECOND too, and keeps what was set. -/
theorem raisedCause_of_ne_zero {cause : BitVec 4} (h : cause ≠ 0) (bit : BitVec 4) :
    raisedCause cause bit = cause ||| bit ||| 8#4 := by
  simp only [raisedCause, if_neg h, causeSecond]

theorem raisedCause_eq (cause bit : BitVec 4) :
    raisedCause cause bit = if cause = 0 then bit else cause ||| bit ||| 8#4 := by
  split
  case isTrue h => rw [h, raisedCause_zero]
  case isFalse h => exact raisedCause_of_ne_zero h bit

/-! ### The interrupt output and the write -/

section
variable {s : State}

/-- The interrupt output of a part not held in reset (R149). -/
theorem irqOutput_iff (ha : s.awake) :
    irqOutput s = true ↔
      s.dc.irqEnable = true ∧ (s.rw.reportNumber ≠ s.dc.seen ∨ s.dc.cause ≠ 0) := by
  have hr : s.dc.resetAsserted = false := ha
  simp [irqOutput, hr]

theorem exec_causeWrite (ha : s.awake) (v : Word) :
    exec (.causeWrite v) s = .next
      { s with dc := { s.dc with cause := s.dc.cause &&& ~~~ v.setWidth 4 } } :=
  live_awake (causeWrite v) ha

theorem raiseCause_awake (ha : s.awake) (bit : BitVec 4) : (raiseCause bit s).awake := ha

end

/-- Settles O12: the write clears by the value's bits; a raise after it meets CAUSE as the write left it, and a
write after a raise is the same write at the raised state. -/
theorem causeWriteClearsItsBits : Obligations.CauseWriteClearsItsBits := by
  unfold Obligations.CauseWriteClearsItsBits
  intro s v ha
  refine ⟨s.dc.cause &&& ~~~ v.setWidth 4, exec_causeWrite ha v,
    fun i hi => getLsbD_clearedCause s.dc.cause v hi, ?irq, fun bit => raisedCause_eq _ bit,
    fun bit => ?writeAfterRaise⟩
  case irq => exact irqOutput_iff ha
  case writeAfterRaise => exact exec_causeWrite (raiseCause_awake ha bit) v

end Sys2Proof.Machine

/-! PROOFS. The last command result (R169). It is a field of Device Control, so most commands leave it because
they leave the whole of Device Control: one `_dc` lemma an operation, in the order of the model. The rest (the
register writes, the issue of a header read, the end of a load or of a publication, the entry to BROKEN, the
resets) change Device Control, and each has a lemma about the result. -/

namespace Sys2Proof.Machine

/-! ### Shared operations -/

/-- A loop whose every pass leaves Device Control leaves it. -/
theorem foldl_dc {α : Type} {f : State → α → State} (hf : ∀ s a, (f s a).dc = s.dc) (l : List α) (s : State) :
    (l.foldl f s).dc = s.dc := by
  induction l generalizing s with
  | nil => rfl
  | cons a l ih => exact (ih (f s a)).trans (hf s a)

section
variable (s : State) (st : StreamId)

@[simp] theorem askJob_dc (kind : JobKind) : (askJob st kind s).dc = s.dc := by rw [askJob_eq]

@[simp] theorem enter_dc (p : Phase) : (enter st p s).dc = s.dc := by
  unfold enter; split <;> simp

@[simp] theorem retire_dc (outcome : OrderOutcome) (reason : Reason) (next : CurrentOrder → Phase) :
    (retire st outcome reason next s).dc = s.dc := by
  unfold retire; split <;> simp

@[simp] theorem streamFault_dc (code : FaultCode) : (streamFault st code s).dc = s.dc := by
  unfold streamFault; split <;> simp

end

/-! ### Frames in flight -/

section
variable (k : Lane) (s : State)

@[simp] theorem haltingEnd_dc (st : StreamId) : (haltingEnd k st s).dc = s.dc := by
  unfold haltingEnd; split <;> simp [apply_ite State.dc]

@[simp] theorem finishDrop_dc (d : DroppedFrame) : (finishDrop k d s).dc = s.dc := by
  cases hr : d.retirement <;> simp [finishDrop, hr, apply_ite State.dc]

@[simp] theorem setDrop_dc (d : DroppedFrame) : (setDrop k d s).dc = s.dc := by
  unfold setDrop; split <;> simp

@[simp] theorem startDrop_dc (d : DroppedFrame) : (startDrop k d s).dc = s.dc := by
  simp [startDrop]

@[simp] theorem dropAnswered_dc : (dropAnswered k s).dc = s.dc := by
  unfold dropAnswered; split <;> simp

@[simp] theorem abandonFrame_dc (st : StreamId) : (abandonFrame k st s).dc = s.dc := by
  unfold abandonFrame
  split
  · split <;> simp
  · rfl

@[simp] theorem reportLoss_dc (why : LossReason) : (reportLoss k why s).dc = s.dc := by
  unfold reportLoss; split <;> simp

@[simp] theorem faultFrame_dc (f : FlightFrame) (slot : Option Nat) (code : FaultCode) (counted : Bool)
    (n : Nat) : (faultFrame k f slot code counted n s).dc = s.dc := by
  simp [faultFrame, apply_ite State.dc]

@[simp] theorem faultDropped_dc (d : DroppedFrame) (code : FaultCode) :
    (faultDropped k d code s).dc = s.dc := by
  simp [faultDropped, apply_ite State.dc]

@[simp] theorem frameTxnFault_dc (code : FaultCode) : (frameTxnFault k code s).dc = s.dc := by
  unfold frameTxnFault
  split
  · split <;> simp
  · simp

@[simp] theorem commitFrame_dc (o : CurrentOrder) (f : FlightFrame) (p : Placement) (value : Word) :
    (commitFrame k o f p value s).dc = s.dc := by
  simp [commitFrame]

@[simp] theorem frameDecision_dc : (frameDecision k s).dc = s.dc := by
  unfold frameDecision
  split
  case h_1 =>
    split
    case h_1 =>
      split
      · split <;> simp
      · rfl
    all_goals rfl
  all_goals rfl

@[simp] theorem advance_dc : (advance k s).dc = s.dc := by
  unfold advance
  split
  case h_1 => split <;> simp [apply_ite State.dc]
  all_goals rfl

@[simp] theorem reportEnd_dc (e : FrameEnd) : (reportEnd k e s).dc = s.dc := by
  unfold reportEnd; split <;> simp

@[simp] theorem progress_dc (st : StreamId) : (progress st s).dc = s.dc := by
  unfold progress; split <;> simp [apply_ite State.dc]

@[simp] theorem afterCommit_dc (st : StreamId) : (afterCommit st s).dc = s.dc := by
  unfold afterCommit
  split
  case h_1 => split <;> simp
  case h_2 => split <;> simp
  all_goals rfl

@[simp] theorem completeCommit_dc (f : FlightFrame) (p : Placement) (missedBy : Half) :
    (completeCommit k f p missedBy s).dc = s.dc := by
  simp [completeCommit]

@[simp] theorem bindFrame_dc (o : CurrentOrder) (f : FlightFrame) (slot : Nat) (fill : Half) :
    (bindFrame k o f slot fill s).dc = s.dc := by
  simp [bindFrame]

@[simp] theorem searchAnswered_dc (data : Read16) (f : FlightFrame) (slot read : Nat) :
    (searchAnswered k data f slot read s).dc = s.dc := by
  unfold searchAnswered; split <;> simp [apply_ite State.dc]

@[simp] theorem dataWriteOk_dc : (dataWriteOk k s).dc = s.dc := by
  unfold dataWriteOk; split <;> simp

@[simp] theorem slotReadOk_dc (data : Read16) : (slotReadOk k data s).dc = s.dc := by
  unfold slotReadOk; split <;> simp

@[simp] theorem metadataOk_dc : (metadataOk k s).dc = s.dc := by
  unfold metadataOk
  split
  case h_1 => split <;> simp
  all_goals simp

@[simp] theorem fillOk_dc : (fillOk k s).dc = s.dc := by
  unfold fillOk; split <;> simp

end

/-! ### Responses and issue -/

section
variable (c : Client) (d : Direction) (s : State)

@[simp] theorem setExpired_dc (v : Byte) : (s.setExpired c d v).dc = s.dc := by
  cases d <;> rfl

@[simp] theorem discardLate_dc : (discardLate c d s).dc = s.dc := by
  simp [discardLate]

@[simp] theorem raiseExpired_dc : (raiseExpired c d s).dc = s.dc := by
  simp [raiseExpired, apply_ite State.dc]

/-- What a response command can do: discard a late response, find nothing to end, or act on the transaction
that ends (R128, R131). -/
theorem respond_cases (isKind : Txn → Bool) (act : Txn → State → State) :
    respond c d isKind act s = discardLate c d s ∨ respond c d isKind act s = s
      ∨ ∃ t, isKind t = true ∧ respond c d isKind act s = act t (removeOldest c d s) := by
  unfold respond
  split
  · exact .inl rfl
  · split
    · exact .inr (.inl rfl)
    · next e _ =>
      split
      · next hk => exact .inr (.inr ⟨e.txn, hk, rfl⟩)
      · exact .inr (.inl rfl)

/-- What holds of Device Control before and after it is left, and before and after what a response is handed
to, holds before and after the response. -/
theorem respond_dc_rel {R : Control → Control → Prop} {isKind : Txn → Bool} {act : Txn → State → State}
    (hsame : R s.dc s.dc)
    (hact : ∀ t, isKind t = true → R s.dc (act t (removeOldest c d s)).dc) :
    R s.dc (respond c d isKind act s).dc := by
  rcases respond_cases c d s isKind act with h | h | ⟨t, hk, h⟩ <;> rw [h]
  · rwa [discardLate_dc]
  · exact hsame
  · exact hact t hk

theorem respond_dc {isKind : Txn → Bool} {act : Txn → State → State} (hact : ∀ t s, (act t s).dc = s.dc) :
    (respond c d isKind act s).dc = s.dc :=
  respond_dc_rel c d s (R := fun a b => b = a) rfl fun t _ => (hact t _).trans (removeOldest_dc s c d)

/-- A response leaves the result if acting on a transaction of its kind does. -/
theorem respond_result {isKind : Txn → Bool} {act : Txn → State → State}
    (hact : ∀ t s, isKind t = true → (act t s).dc.result = s.dc.result) :
    (respond c d isKind act s).dc.result = s.dc.result :=
  respond_dc_rel c d s (R := fun a b => b.result = a.result) rfl fun t hk => hact t _ hk

/-- Issue leaves the result: of Device Control a header read's issue changes the load in progress only. -/
theorem clientIssued_result (t : Txn) : (clientIssued t s).dc.result = s.dc.result := by
  unfold clientIssued
  cases t with
  | slotRead k a => dsimp only; split <;> rfl
  | dataWrite k a bytes => dsimp only; split <;> simp
  | headerRead a => dsimp only; split <;> rfl
  | _ => rfl

theorem grantOne_result : (grantOne s).dc.result = s.dc.result := by
  unfold grantOne
  split
  · rfl
  · split
    · rfl
    · split
      · rfl
      · exact clientIssued_result _ _

end

/-! ### Requests, frame starts and trigger edges -/

section
variable (st : StreamId) (s : State)

@[simp] theorem answer_dc (number : Byte) (r : RequestResult) : (answer st number r s).dc = s.dc := by
  simp [answer]

@[simp] theorem actStart_dc (a : Anchor) : (actStart st a s).dc = s.dc := by
  unfold actStart
  split
  · simp
  · split
    · simp
    · split <;> simp

@[simp] theorem actHalt_dc (number : Byte) : (actHalt st number s).dc = s.dc := by
  unfold actHalt; split <;> simp [apply_ite State.dc]

@[simp] theorem actResume_dc (number : Byte) : (actResume st number s).dc = s.dc := by
  unfold actResume; split <;> simp

@[simp] theorem disown_dc : (disown st s).dc = s.dc := rfl

@[simp] theorem actForget_dc (number : Byte) : (actForget st number s).dc = s.dc := by
  unfold actForget; split <;> simp

@[simp] theorem actRequest_dc (a : Anchor) : (actRequest st a s).dc = s.dc := by
  simp [actRequest, apply_ite State.dc]

/-- A request leaves Device Control if acting on it does. -/
theorem takeRequest_dc (number : Byte) {act : State → State} (hact : (act s).dc = s.dc) :
    (takeRequest st number act s).dc = s.dc := by
  simp [takeRequest, apply_ite State.dc, hact]

@[simp] theorem meetFrame_dc (o : CurrentOrder) (k : Lane) (h : FrameHeader) :
    (meetFrame st o k h s).2.dc = s.dc := by
  unfold meetFrame
  dsimp only
  split
  · simp
  · split <;> simp

@[simp] theorem frameStart_dc (k : Lane) (h : FrameHeader) : (frameStart k h s).2.dc = s.dc := by
  unfold frameStart
  split
  · rfl
  · split <;> simp [unclaim, apply_ite Prod.snd, apply_ite State.dc]

@[simp] theorem edgeForStream_dc (k : Lane) (e : Edge) : (edgeForStream k e st s).dc = s.dc := by
  unfold edgeForStream; split <;> simp [apply_ite State.dc]

@[simp] theorem takeEdge_dc (k : Lane) (e : Edge) : (takeEdge k e s).dc = s.dc := by
  simp [takeEdge, apply_ite State.dc, foldl_dc fun s st => edgeForStream_dc st s k e]

@[simp] theorem expireArm_dc : (expireArm st s).dc = s.dc := by
  unfold expireArm; split <;> simp [apply_ite State.dc]

end

/-! ### The Chain Walker -/

section
variable (s : State)

@[simp] theorem endJob_dc : (endJob s).dc = s.dc := rfl

@[simp] theorem setStage_dc (stage : JobStage) : (setStage stage s).dc = s.dc := rfl

@[simp] theorem beginFetch_dc (st : StreamId) (b : Binding) (a : Addr) : (beginFetch st b a s).dc = s.dc := by
  simp [beginFetch, apply_ite State.dc]

@[simp] theorem beginLink_dc (a : Addr) : (beginLink a s).dc = s.dc := rfl

@[simp] theorem goOn_dc (st : StreamId) : (goOn st s).dc = s.dc := by
  unfold goOn; split <;> simp

/-- A job taken leaves Device Control if its work does. -/
theorem takeJob_dc (kind : JobKind) {work : Job → State → State} (hwork : ∀ j s, (work j s).dc = s.dc) :
    (takeJob kind work s).dc = s.dc := by
  unfold takeJob; split <;> simp [apply_ite State.dc, hwork]

@[simp] theorem workFetch_dc (j : Job) : (workFetch j s).dc = s.dc := by
  unfold workFetch; split <;> simp

@[simp] theorem workLink_dc (j : Job) : (workLink j s).dc = s.dc := by
  unfold workLink; split <;> simp

@[simp] theorem issueOrderRead_dc : (issueOrderRead s).dc = s.dc := by
  unfold issueOrderRead; split <;> simp [apply_ite State.dc]

@[simp] theorem halfEnded_dc : (halfEnded s).dc = s.dc := by
  unfold halfEnded; split <;> simp

@[simp] theorem anchorReadOk_dc (data : Read16) : (anchorReadOk data s).dc = s.dc := by
  unfold anchorReadOk; split <;> simp [apply_ite State.dc]

@[simp] theorem refuseOrder_dc (st : StreamId) (a : Addr) (outcome : OrderOutcome) (reason : Reason) :
    (refuseOrder st a outcome reason s).dc = s.dc := by
  simp [refuseOrder]

@[simp] theorem acceptOrder_dc (st : StreamId) (a : Addr) (p : OrderParams) :
    (acceptOrder st a p s).dc = s.dc := by
  simp [acceptOrder]

@[simp] theorem judgeOrder_dc (st : StreamId) (b : Binding) (a : Addr) (data : Read128) :
    (judgeOrder st b a data s).dc = s.dc := by
  unfold judgeOrder
  split
  · simp
  · split
    · simp
    · split <;> simp

@[simp] theorem orderReadOk_dc (data : Read128) : (orderReadOk data s).dc = s.dc := by
  unfold orderReadOk
  split
  · rfl
  · split
    · split <;> simp
    · simp

@[simp] theorem followLink_dc (st : StreamId) (a link : Addr) : (followLink st a link s).dc = s.dc := by
  unfold followLink; split <;> simp [apply_ite State.dc]

@[simp] theorem linkReadOk_dc (data : Read16) : (linkReadOk data s).dc = s.dc := by
  unfold linkReadOk; split <;> simp [apply_ite State.dc]

@[simp] theorem orderReadFaulted_dc : (orderReadFaulted s).dc = s.dc := by
  unfold orderReadFaulted; split <;> simp [apply_ite State.dc]

@[simp] theorem linkReadFaulted_dc : (linkReadFaulted s).dc = s.dc := by
  unfold linkReadFaulted; split <;> simp [apply_ite State.dc]

@[simp] theorem sweep_dc : (sweep s).dc = s.dc := by
  unfold sweep; split <;> simp [apply_ite State.dc, foldl_dc fun s st => attend_dc s st]

end

/-! ### The Report Writer -/

section
variable (s : State)

@[simp] theorem makeSummary_dc (number : Word) (device : SummaryState) :
    (makeSummary number device s).dc = s.dc := rfl

@[simp] theorem beginLaneRefresh_dc : (beginLaneRefresh s).dc = s.dc := rfl

@[simp] theorem beginPublication_dc : (beginPublication s).dc = s.dc := by
  simp [beginPublication, apply_ite State.dc]

@[simp] theorem initialSummary_dc : (initialSummary s).dc = s.dc := by
  simp [initialSummary, apply_ite State.dc]

@[simp] theorem streamStatusOk_dc : (streamStatusOk s).dc = s.dc := by
  unfold streamStatusOk
  split
  · split
    · simp
    · split <;> simp [apply_ite State.dc]
  · rfl

@[simp] theorem notifyPublished_dc (entry : StreamId × Option Addr) :
    (notifyPublished entry s).dc = s.dc := by
  unfold notifyPublished; split <;> simp [apply_ite State.dc]

/-- A publication's end leaves the result: of Device Control it changes the device state only. -/
theorem completePublication_result (p : Publication) :
    (completePublication p s).dc.result = s.dc.result := by
  simp [completePublication, apply_ite State.dc, apply_ite Control.result,
    foldl_dc fun s e => notifyPublished_dc s e]

theorem summaryOk_result : (summaryOk s).dc.result = s.dc.result := by
  unfold summaryOk
  split
  · split
    · rfl
    · split
      · exact completePublication_result s _
      · rfl
  · rfl

@[simp] theorem laneStatusOk_dc : (laneStatusOk s).dc = s.dc := by
  simp [laneStatusOk, apply_ite State.dc]

@[simp] theorem refreshExpired_dc : (refreshExpired s).dc = s.dc := by
  unfold refreshExpired; split <;> simp [apply_ite State.dc]

@[simp] theorem quiescePoint_dc : (quiescePoint s).dc = s.dc := by
  simp [quiescePoint, apply_ite State.dc]

@[simp] theorem drainRefresh_dc : (drainRefresh s).dc = s.dc := by
  simp [drainRefresh, apply_ite State.dc]

@[simp] theorem closingPublication_dc : (closingPublication s).dc = s.dc := by
  simp [closingPublication, apply_ite State.dc]

end

/-! ### Port faults -/

section
variable (s : State)

@[simp] theorem endAwait_dc (st : StreamId) : (endAwait st s).dc = s.dc := by
  unfold endAwait; split <;> simp [apply_ite State.dc]

@[simp] theorem halfFaulted_dc (st : StreamId) (disowned : Bool) :
    (halfFaulted st disowned s).dc = s.dc := by
  unfold halfFaulted
  dsimp only
  split
  · split <;> simp
  · simp

/-- A Board fault leaves the result: of Device Control it changes the device state and CAUSE (R163, R165). -/
theorem boardFault_result (bit : BitVec 4) : (boardFault bit s).dc.result = s.dc.result := by
  unfold boardFault; split <;> rfl

theorem anchorReadFaulted_result : (anchorReadFaulted s).dc.result = s.dc.result := by
  unfold anchorReadFaulted
  split
  · rfl
  · exact boardFault_result _ _

/-- A port fault on any transaction but a header read leaves the result. -/
theorem portFault_result {t : Txn} (ht : ∀ a, t ≠ .headerRead a) :
    (portFault t s).dc.result = s.dc.result := by
  cases t with
  | headerRead a => exact absurd rfl (ht a)
  | anchorRead _ => exact anchorReadFaulted_result s
  | streamStatusWrite _ _ | laneStatusWrite _ _ | summaryWrite _ _ =>
    exact boardFault_result s causeBoardWrite
  | _ => simp [portFault]

/-- An error response that is for no header read leaves the result. -/
theorem respond_portFault_result (c : Client) (d : Direction) {isKind : Txn → Bool}
    (hk : ∀ a, isKind (.headerRead a) = false) :
    (respond c d isKind portFault s).dc.result = s.dc.result := by
  refine respond_result c d s fun t s ht => portFault_result s ?_
  rintro a rfl
  exact Bool.false_ne_true ((hk a).symm.trans ht)

end

/-! ### The Lane Receivers -/

section
variable (k : Lane) (s : State)

@[simp] theorem loseIfOffered_dc (a : AcceptedFrame) (why : LossReason) :
    (loseIfOffered k a why s).dc = s.dc := by
  unfold loseIfOffered; split <;> simp

@[simp] theorem frameChecks_dc (a : AcceptedFrame) (failed : Bool) :
    (frameChecks k a failed s).dc = s.dc := by
  unfold frameChecks; dsimp only; split <;> simp [apply_ite State.dc]

@[simp] theorem markTruncated_dc : (markTruncated k s).dc = s.dc := by
  unfold markTruncated; split <;> simp

@[simp] theorem stageByte_dc (a : AcceptedFrame) (b : Byte) : (stageByte k a b s).dc = s.dc := by
  simp [stageByte, apply_ite State.dc]

@[simp] theorem payloadByte_dc (a : AcceptedFrame) (b : Byte) : (payloadByte k a b s).dc = s.dc := by
  unfold payloadByte; dsimp only; split <;> simp [apply_ite State.dc]

@[simp] theorem acceptHeader_dc (h : FrameHeader) (crc : Half) : (acceptHeader k h crc s).dc = s.dc := by
  simp [acceptHeader, apply_ite State.dc]

@[simp] theorem headerByte_dc (bytes : List Byte) (crc : Half) (b : Byte) :
    (headerByte k bytes crc b s).dc = s.dc := by
  unfold headerByte
  dsimp only
  split
  · simp
  · split <;> simp [apply_ite State.dc]

@[simp] theorem idleSymbol_dc : (idleSymbol k s).dc = s.dc := by
  unfold idleSymbol; split <;> simp

@[simp] theorem startCuts_dc (a : AcceptedFrame) : (startCuts k a s).dc = s.dc := by
  simp [startCuts]

@[simp] theorem clearRun_dc : (clearRun k s).dc = s.dc := rfl

@[simp] theorem startSymbol_dc : (startSymbol k s).dc = s.dc := by
  unfold startSymbol
  split
  case h_3 => split <;> simp
  all_goals simp

@[simp] theorem endSymbol_dc : (endSymbol k s).dc = s.dc := by
  unfold endSymbol
  split
  case h_3 => split <;> simp
  all_goals simp

@[simp] theorem abortCuts_dc (a : AcceptedFrame) : (abortCuts k a s).dc = s.dc := by
  simp [abortCuts]

@[simp] theorem abortSymbol_dc : (abortSymbol k s).dc = s.dc := by
  unfold abortSymbol
  split
  case h_3 => split <;> simp
  all_goals simp

@[simp] theorem loseOpen_dc (f : Option OpenFrame) (why : LossReason) : (loseOpen k f why s).dc = s.dc := by
  unfold loseOpen; split <;> simp

@[simp] theorem codeViolation_dc : (codeViolation k s).dc = s.dc := by
  unfold codeViolation; split <;> simp [apply_ite State.dc]

@[simp] theorem dataByte_dc (b : Byte) : (dataByte k b s).dc = s.dc := by
  unfold dataByte
  split
  case h_3 => split <;> simp
  all_goals simp

@[simp] theorem sampleLine_dc : (sampleLine k s).dc = s.dc := by
  unfold sampleLine
  dsimp only
  split
  · rfl
  · split <;> simp [apply_ite State.dc]

end

/-! ### The register writes (R169 to R172) -/

section
variable (s : State)

theorem controlEnable_result : (controlEnable s).dc.result =
    if s.dc.device = .off ∨ s.dc.device = .quiet then .taken else .refused := by
  cases hd : s.dc.device <;> simp [controlEnable, hd]

theorem controlQuiesce_result : (controlQuiesce s).dc.result =
    if s.dc.device = .running then .taken else .refused := by
  unfold controlQuiesce; split <;> rfl

theorem controlReset_result : (controlReset s).dc.result = .taken := by
  unfold controlReset; split <;> rfl

/-- A value written to CONTROL that names no command is refused. -/
theorem controlWrite_unknown {v : Word} (hv : 6 ≤ v.toNat) : controlWrite v s = s.setResult .refused := by
  have hne (w : Word) (hw : w.toNat < 6) : v ≠ w := by
    rintro rfl
    omega
  simp only [controlWrite, if_neg (hne 0 (by decide)), if_neg (hne 1 (by decide)), if_neg (hne 2 (by decide)),
    if_neg (hne 3 (by decide)), if_neg (hne 4 (by decide)), if_neg (hne 5 (by decide))]

theorem boardLoWrite_result (v : Word) : (boardLoWrite v s).dc.result =
    if s.dc.device = .off ∨ s.dc.device = .quiet then .taken else .refused := by
  unfold boardLoWrite; split <;> rfl

theorem boardHiWrite_result (v : Word) : (boardHiWrite v s).dc.result =
    if s.dc.device = .off ∨ s.dc.device = .quiet then .taken else .refused := by
  unfold boardHiWrite; split <;> rfl

theorem attendWrite_result (v : Word) : (attendWrite v s).dc.result =
    if s.dc.device = .running then (if v.toNat < 24 then .taken else .badStream) else .ignored := by
  unfold attendWrite
  split
  · split <;> rfl
  · rfl

/-- A write that the Register Port takes without effect (R167). -/
theorem portWrite_noEffect {o : BitVec 5} {e : BitVec 4} (h : writeHasNoEffect o e = true) (v : Word) :
    portWrite o e v s = s := if_pos h

end

/-! ### The end of a load (R164, R176, R177) -/

/-- The result by Device Control before and after: REFUSED if LOADING has ended at a load origin, else left. -/
def LoadResult (before after : Control) : Prop :=
  after.result = if before.device.code = 1 ∧ (after.device = .off ∨ after.device = .quiet) then .refused
    else before.result

theorem DeviceState.code_eq_one_iff (d : DeviceState) : d.code = 1 ↔ ∃ l, d = .loading l := by
  cases d <;> simp [DeviceState.code]

/-- LOADING is no load origin, so where the device state stays the result must stay. -/
theorem LoadResult.refl (c : Control) : LoadResult c c := by
  refine (if_neg ?_).symm
  rintro ⟨hl, h | h⟩ <;> simp [h, DeviceState.code] at hl

theorem LoadResult.of_not_loading {c c' : Control} (hd : ∀ l, c.device ≠ .loading l)
    (hr : c'.result = c.result) : LoadResult c c' := by
  have hcode : c.device.code ≠ 1 := mt (DeviceState.code_eq_one_iff _).mp (not_exists.mpr hd)
  exact hr.trans (if_neg fun h => hcode h.1).symm

theorem LoadResult.of_ends_elsewhere {c c' : Control} (hd : c'.device ≠ .off ∧ c'.device ≠ .quiet)
    (hr : c'.result = c.result) : LoadResult c c' :=
  hr.trans (if_neg fun h => h.2.elim hd.1 hd.2).symm

theorem not_working_of_loading {s : State} {l : Load} (hd : s.dc.device = .loading l) : ¬ s.working := by
  simp [hd]

section
variable (s : State)

theorem failLoad_loadResult (bit : BitVec 4) : LoadResult s.dc (failLoad bit s).dc := by
  unfold failLoad
  split
  case h_1 l hd =>
    have hcode : s.dc.device.code = 1 := (DeviceState.code_eq_one_iff _).mpr ⟨l, hd⟩
    have horigin : l.origin.state = .off ∨ l.origin.state = .quiet := by
      cases l.origin <;> simp [LoadOrigin.state]
    exact (if_pos ⟨hcode, horigin⟩).symm
  all_goals exact LoadResult.refl _

/-- A Board fault in LOADING is none (R161), and in the other states it leaves the result. -/
theorem boardFault_loadResult (bit : BitVec 4) : LoadResult s.dc (boardFault bit s).dc := by
  by_cases hw : s.working
  · exact LoadResult.of_not_loading (fun _ hl => not_working_of_loading hl hw) (boardFault_result s bit)
  · rw [boardFault, if_neg hw]
    exact LoadResult.refl _

theorem anchorReadFaulted_loadResult : LoadResult s.dc (anchorReadFaulted s).dc := by
  unfold anchorReadFaulted
  split
  · exact LoadResult.refl _
  · exact boardFault_loadResult (endJob s) causeBoardRead

/-- A port fault ends a load if it is that of a header read, and no other changes the result. -/
theorem portFault_loadResult (t : Txn) : LoadResult s.dc (portFault t s).dc := by
  cases t with
  | headerRead _ => exact failLoad_loadResult s causeBoardRead
  | anchorRead _ => exact anchorReadFaulted_loadResult s
  | streamStatusWrite _ _ | laneStatusWrite _ _ | summaryWrite _ _ =>
    exact boardFault_loadResult s causeBoardWrite
  | _ => simp [portFault, LoadResult.refl]

theorem timeOut_loadResult (c : Client) (d : Direction) : LoadResult s.dc (timeOut c d s).dc := by
  unfold timeOut
  split
  · exact LoadResult.refl _
  · split
    · simpa using portFault_loadResult (raiseExpired c d (removeOldest c d s)) _
    · exact LoadResult.refl _

@[simp] theorem laneDisabledFault_dc (st : StreamId) (b : Binding) :
    (laneDisabledFault st b s).dc = s.dc := by
  unfold laneDisabledFault; dsimp only; split <;> simp [apply_ite State.dc]

@[simp] theorem deadlineRetest_dc (st : StreamId) (deadline : Option Time) :
    (deadlineRetest st deadline s).dc = s.dc := by
  unfold deadlineRetest; split <;> simp [apply_ite State.dc]

/-- The window test leaves Device Control, whether it retires the order or leaves it to the next test. -/
theorem windowRetest_getD_dc (st : StreamId) (b : Binding) (o : CurrentOrder) {t : State}
    (ht : t.dc = s.dc) : ((windowRetest st b o s).getD t).dc = s.dc := by
  unfold windowRetest
  dsimp only
  split
  · cases o.params.outside (s.window b.window) <;> simp [ht]
  · simp

@[simp] theorem entryTest_dc (st : StreamId) : (entryTest st s).dc = s.dc := by
  unfold entryTest
  split
  · rfl
  · split
    · simp
    · split
      · exact windowRetest_getD_dc s _ _ _ (deadlineRetest_dc s _ _)
      · exact windowRetest_getD_dc s _ _ _ rfl
      all_goals rfl

/-- The blocks' entry to RUNNING puts the snapshot in force, and leaves the rest of Device Control. -/
theorem startRunning_dc (n : Snapshot) :
    (startRunning n s).dc = { s.dc with device := .running, snapshot := some n } := rfl

@[simp] theorem resumeFromQuiet_dc : (resumeFromQuiet s).dc = s.dc := by
  simp [resumeFromQuiet, foldl_dc fun s st => entryTest_dc s st]

@[simp] theorem beginInitialPublication_dc : (beginInitialPublication s).dc = s.dc := by
  simp [beginInitialPublication]

/-- From either load origin Device Control is left as the blocks' entry to RUNNING leaves it. -/
theorem enterRunning_dc (origin : LoadOrigin) (n : Snapshot) :
    (enterRunning origin n s).dc = { s.dc with device := .running, snapshot := some n } := by
  cases origin with
  | off => exact (beginInitialPublication_dc _).trans (startRunning_dc s n)
  | quiet => exact (resumeFromQuiet_dc _).trans (startRunning_dc s n)

/-- After a header read LOADING goes on, fails, or ends in RUNNING (R174 to R177). -/
theorem headerReadOk_loadResult (data : Read128) : LoadResult s.dc (headerReadOk data s).dc := by
  unfold headerReadOk
  split
  case h_1 l hd =>
    dsimp only
    split
    · exact LoadResult.of_ends_elsewhere (by simp) rfl
    · split
      · rw [enterRunning_dc]
        exact LoadResult.of_ends_elsewhere (by simp) rfl
      · exact failLoad_loadResult s causeConfigBad
  all_goals exact LoadResult.refl _

end

/-! ### Resets -/

/-- A soft reset that reaches OFF leaves the result TAKEN (R182, R183). -/
theorem resetComplete_result (s : State) : (resetComplete s).dc.result =
    if s.dc.device = .resetting ∧ (resetComplete s).dc.device = .off then .taken else s.dc.result := by
  unfold resetComplete
  split
  case isTrue h => exact (if_pos ⟨h.1, rfl⟩).symm
  case isFalse h => exact (if_neg fun hd => by simp [hd.1] at hd).symm

/-! ### Every command -/

section
variable {s t : State} {f : State → State}

/-- A part not held in reset takes the command. -/
theorem eq_of_live (ha : s.awake) (h : live f s = .next t) : t = f s := by
  rw [live_awake f ha] at h
  exact (Host.Outcome.next.inj h).symm

/-- A command whose meaning leaves Device Control leaves the result. -/
theorem result_of_dc (ha : s.awake) (h : live f s = .next t) (hf : (f s).dc = s.dc) :
    t.dc.result = s.dc.result := by
  rw [eq_of_live ha h, hf]

end

/-- Settles O13: command by command, by the lemma that says what its meaning does to Device Control. -/
theorem commandResultLaw : Obligations.CommandResultLaw := by
  unfold Obligations.CommandResultLaw
  intro c s t ha hwf h
  cases c with
  | enable => exact eq_of_live ha h ▸ controlEnable_result s
  | quiesce => exact eq_of_live ha h ▸ controlQuiesce_result s
  | reset => exact eq_of_live ha h ▸ controlReset_result s
  | irqOn | irqOff => exact eq_of_live ha h ▸ rfl
  | noCommand => exact result_of_dc (f := fun s => s) ha h rfl
  | unknownCommand v =>
    have hv : 6 ≤ v.toNat := of_decide_eq_true hwf
    exact eq_of_live ha h ▸ controlWrite_unknown s hv ▸ rfl
  | boardLoWrite v => exact eq_of_live ha h ▸ boardLoWrite_result s v
  | boardHiWrite v => exact eq_of_live ha h ▸ boardHiWrite_result s v
  | attendWrite v => exact eq_of_live ha h ▸ attendWrite_result s v
  | seenWrite | causeWrite => exact eq_of_live ha h ▸ rfl
  | registerWriteOther o e v => exact result_of_dc ha h (congrArg State.dc (portWrite_noEffect s hwf v))
  | powerOnReset => exact Host.Outcome.next.inj h ▸ rfl
  | idleSymbol k => exact result_of_dc ha h (idleSymbol_dc k s)
  | startSymbol k => exact result_of_dc ha h (startSymbol_dc k s)
  | endSymbol k => exact result_of_dc ha h (endSymbol_dc k s)
  | abortSymbol k => exact result_of_dc ha h (abortSymbol_dc k s)
  | dataByte k b => exact result_of_dc ha h (dataByte_dc k s b)
  | codeViolation k => exact result_of_dc ha h (codeViolation_dc k s)
  | triggerEdge k e =>
    exact result_of_dc (s := moveLine k (edgeLevel e) s) ha h (sampleLine_dc k _)
  | armDeadlineExpiry st => exact result_of_dc ha h (expireArm_dc st s)
  | sweepExpiry => exact result_of_dc ha h (sweep_dc s)
  | laneRefreshExpiry => exact result_of_dc ha h (refreshExpired_dc s)
  | responseTimeout c d => exact eq_of_live ha h ▸ timeOut_loadResult s c d
  | grant => exact eq_of_live ha h ▸ grantOne_result s
  | issueAccepted =>
    exact result_of_dc (f := fun s => { s with port := { s.port with issuePoint := none } }) ha h rfl
  | lateResponse c d => exact result_of_dc ha h (by simp [apply_ite State.dc])
  | anchorJob => exact result_of_dc ha h (takeJob_dc s _ fun _ _ => rfl)
  | fetchJob => exact result_of_dc ha h (takeJob_dc s _ fun j s => workFetch_dc s j)
  | linkJob => exact result_of_dc ha h (takeJob_dc s _ fun j s => workLink_dc s j)
  | orderReadIssue => exact result_of_dc ha h (issueOrderRead_dc s)
  | anchorReadDone d => exact result_of_dc ha h (respond_dc _ _ s fun _ s => anchorReadOk_dc s d)
  | start st n => exact result_of_dc ha h (takeRequest_dc st s n (actStart_dc st s _))
  | halt st n => exact result_of_dc ha h (takeRequest_dc st s n (actHalt_dc st s n))
  | resume st n => exact result_of_dc ha h (takeRequest_dc st s n (actResume_dc st s n))
  | forget st n => exact result_of_dc ha h (takeRequest_dc st s n (actForget_dc st s n))
  | orderReadDone d => exact result_of_dc ha h (respond_dc _ _ s fun _ s => orderReadOk_dc s d)
  | linkReadDone d => exact result_of_dc ha h (respond_dc _ _ s fun _ s => linkReadOk_dc s d)
  | boardHeaderReadDone d =>
    exact eq_of_live ha h ▸ respond_dc_rel _ _ s (LoadResult.refl _) fun _ _ => headerReadOk_loadResult _ d
  | slotReadDone k d => exact result_of_dc ha h (respond_dc _ _ s fun _ s => slotReadOk_dc k s d)
  | dataWriteDone k => exact result_of_dc ha h (respond_dc _ _ s fun _ s => dataWriteOk_dc k s)
  | metadataWriteDone => exact result_of_dc ha h (respond_dc _ _ s fun t s => by cases t <;> simp)
  | fillWriteDone => exact result_of_dc ha h (respond_dc _ _ s fun t s => by cases t <;> simp)
  | deviceHalfWriteDone => exact result_of_dc ha h (respond_dc _ _ s fun _ s => halfEnded_dc s)
  | publicationBegin => exact result_of_dc ha h (beginPublication_dc s)
  | streamStatusWriteDone => exact result_of_dc ha h (respond_dc _ _ s fun _ s => streamStatusOk_dc s)
  | summaryWriteDone => exact eq_of_live ha h ▸ respond_result _ _ s fun _ s _ => summaryOk_result s
  | laneStatusWriteDone => exact result_of_dc ha h (respond_dc _ _ s fun _ s => laneStatusOk_dc s)
  | slotReadFault | dataWriteFault | commitWriteFault | deviceHalfWriteFault | orderReadFault
  | linkReadFault | anchorReadFault | boardWriteFault =>
    exact eq_of_live ha h ▸ respond_portFault_result s _ _ fun _ => rfl
  | boardHeaderReadFault =>
    exact eq_of_live ha h ▸ respond_dc_rel _ _ s (LoadResult.refl _) fun t _ => portFault_loadResult _ t
  | quiescePoint => exact result_of_dc ha h (quiescePoint_dc s)
  | drainLaneRefresh => exact result_of_dc ha h (drainRefresh_dc s)
  | closingPublication => exact result_of_dc ha h (closingPublication_dc s)
  | resetComplete => exact eq_of_live ha h ▸ resetComplete_result s
  | resetInputReleased => exact Host.Outcome.next.inj h ▸ rfl

end Sys2Proof.Machine

/-! PROOFS. What the part's operations keep in order. `Orderly` says of two states everything that the laws of the
port, the receivers, the bindings, the queues and the ledger need of a step between them; it is transitive, so an
operation is orderly because the operations it is built from are. -/

namespace Sys2Proof.Machine

/-! ### The relation -/

/-- What has just ended when an operation begins: nothing, a transaction of a lane's frame, or the read of the job
in hand. Who awaited it may await one fewer. -/
inductive Ack where
  | nothing
  | ofLane (k : Lane)
  | ofJob

/-- How many transactions of lane `k`'s frame have just ended. -/
def Ack.lane : Ack → Lane → Nat
  | .ofLane j, k => if j = k then 1 else 0
  | .nothing, _ | .ofJob, _ => 0

/-- How many reads of the job in hand have just ended. -/
def Ack.job : Ack → Nat
  | .ofJob => 1
  | .nothing | .ofLane _ => 0

/-- A property of a transaction that a FORGET's mark does not change. -/
def Blind (p : Txn → Bool) : Prop := ∀ st x, p (x.disownedBy st) = p x

/-- Reads of the job in hand that the walker awaits (R34, R36). -/
def Walker.readAwaited (w : Walker) : Nat :=
  match w.inHand with
  | some j => if j.stage.readIssued then 1 else 0
  | none => 0

/-- The transactions `made` have joined the Report Writer's queue: device halves, each of a stream that is pending,
and writes of commits. Those queued before are still there, but for the mark of a FORGET. -/
structure Joined (s t : State) (made : List Txn) : Prop where
  counts : ∀ p, Blind p → t.rw.queue.countP p = s.rw.queue.countP p + made.countP p
  kinds : ∀ x ∈ made, x.isDeviceHalf = true ∨ x.commitLane?.isSome = true
  pended : s.pendsAllowed → ∀ x ∈ made, ∀ st, x.deviceHalfStream? = some st → t.isPending st = true

theorem Joined.nil {s t : State} (h : t.rw.queue = s.rw.queue) : Joined s t [] :=
  ⟨fun p _ => by simp [h], by simp, by simp⟩

/-- What an operation on streams, frames, jobs and receivers keeps in order. Device Control keeps its state,
snapshot and Board address; the port's table and the Report Writer's publications stay; a Lane Writer and the job
in hand await what is outstanding for them, but for what has just ended. -/
structure Orderly (a : Ack) (s t : State) : Prop where
  device : t.dc.device = s.dc.device := by rfl
  snapshot : t.dc.snapshot = s.dc.snapshot := by rfl
  board : t.board = s.board := by rfl
  bindings : BindingLaw s → BindingLaw t := by exact id
  staging : StagingFits s → StagingFits t := by exact id
  locks : LockLaw s → LockLaw t := by exact id
  jobs : QueueLaw s → QueueLaw t := by exact id
  jobsStay : s.dc.device ≠ .running → t.walker.queue = s.walker.queue := by exact fun _ => rfl
  handStays : s.dc.device ≠ .running → s.walker.inHand = none → t.walker.inHand = none := by exact fun _ h => h
  reads : s.walker.readAwaited ≤ t.walker.readAwaited + a.job := by exact Nat.le_add_right _ _
  idle : s.dc.device ≠ .running → ∀ k, s.lw k = .idle → t.lw k = .idle := by exact fun _ _ h => h
  table : ∀ p, Blind p → (t.port.table.countP fun e => p e.txn) = s.port.table.countP fun e => p e.txn := by
    exact fun _ _ => rfl
  publication : t.rw.publication = s.rw.publication := by rfl
  initial : t.rw.initial = s.rw.initial := by rfl
  drain : t.rw.drain = s.rw.drain := by rfl
  laneUnanswered : t.rw.laneUnanswered = s.rw.laneUnanswered := by rfl
  pending : ∀ st, s.isPending st = true → t.isPending st = true := by exact fun _ h => h
  made : ∃ made, Joined s t made := by exact ⟨[], Joined.nil rfl⟩
  lanes : ∀ k, t.rw.queue.countP (Txn.ofLane k) + (s.lw k).awaited
      ≤ s.rw.queue.countP (Txn.ofLane k) + (t.lw k).awaited + a.lane k := by exact fun _ => Nat.le_add_right _ _

theorem Orderly.refl (a : Ack) (s : State) : Orderly a s s := {}

theorem Orderly.of_eq {a : Ack} {s t : State} (h : t = s) : Orderly a s t := h ▸ refl a s

theorem Joined.append {s t u : State} {xs ys : List Txn} (hd : t.dc.device = s.dc.device)
    (hp : ∀ st, t.isPending st = true → u.isPending st = true) (h : Joined s t xs) (h' : Joined t u ys) :
    Joined s u (xs ++ ys) where
  counts p hb := by rw [h'.counts p hb, h.counts p hb, List.countP_append, Nat.add_assoc]
  kinds x hx := (List.mem_append.mp hx).elim (h.kinds x) (h'.kinds x)
  pended hs x hx st hst := by
    have ht : t.pendsAllowed := by unfold State.pendsAllowed; rwa [hd]
    exact (List.mem_append.mp hx).elim (fun hx => hp st (h.pended hs x hx st hst))
      (fun hx => h'.pended ht x hx st hst)

/-- One operation after another, the second with `b` and the first with `a` just ended, of which at most one is
something. -/
theorem Orderly.comp {a b c : Ack} {s t u : State} (hl : ∀ k, a.lane k + b.lane k = c.lane k)
    (hj : a.job + b.job = c.job) (h : Orderly a s t) (h' : Orderly b t u) : Orderly c s u where
  device := h'.device.trans h.device
  snapshot := h'.snapshot.trans h.snapshot
  board := h'.board.trans h.board
  bindings := h'.bindings ∘ h.bindings
  staging := h'.staging ∘ h.staging
  locks := h'.locks ∘ h.locks
  jobs := h'.jobs ∘ h.jobs
  jobsStay hr := (h'.jobsStay (h.device ▸ hr)).trans (h.jobsStay hr)
  handStays hr := h'.handStays (h.device ▸ hr) ∘ h.handStays hr
  reads := by have := h.reads; have := h'.reads; omega
  idle hr k := h'.idle (h.device ▸ hr) k ∘ h.idle hr k
  table p hb := (h'.table p hb).trans (h.table p hb)
  publication := h'.publication.trans h.publication
  initial := h'.initial.trans h.initial
  drain := h'.drain.trans h.drain
  laneUnanswered := h'.laneUnanswered.trans h.laneUnanswered
  pending st := h'.pending st ∘ h.pending st
  made := by
    obtain ⟨xs, hx⟩ := h.made
    obtain ⟨ys, hy⟩ := h'.made
    exact ⟨xs ++ ys, hx.append h.device h'.pending hy⟩
  lanes k := by have := h.lanes k; have := h'.lanes k; have := hl k; omega

/-- An operation, and then one with nothing just ended. -/
theorem Orderly.trans {a : Ack} {s t u : State} (h : Orderly a s t) (h' : Orderly .nothing t u) :
    Orderly a s u := comp (fun _ => rfl) rfl h h'

/-- An operation with nothing just ended, and then another. -/
theorem Orderly.after {a : Ack} {s t u : State} (h : Orderly .nothing s t) (h' : Orderly a t u) :
    Orderly a s u := comp (fun _ => Nat.zero_add _) (Nat.zero_add _) h h'

theorem Orderly.weaken {s t : State} (h : Orderly .nothing s t) (a : Ack) : Orderly a s t :=
  h.after (refl a t)

/-- A loop whose every pass is orderly is. -/
theorem Orderly.foldl {α : Type} {f : State → α → State} (hf : ∀ s x, Orderly .nothing s (f s x)) (l : List α)
    (s : State) : Orderly .nothing s (l.foldl f s) := by
  induction l generalizing s with
  | nil => exact refl _ s
  | cons x l ih => exact (hf s x).trans (ih (f s x))

/-- The queue of commands can be replaced. -/
theorem Orderly.setPending (s : State) (q : List Instr) : Orderly .nothing s { s with pending := q } := {}

/-! ### Primitive updates -/

section
variable (s : State)

theorem isPending_pend {st x : StreamId} (h : s.isPending x = true) : (pend st s).isPending x = true := by
  have h' : s.rw.pendingSet[x.val] = true := h
  rw [pend_eq]
  show (if s.pendsAllowed then s.rw.pendingSet.set st.val true else s.rw.pendingSet)[x.val] = true
  split
  · rw [Vector.getElem_set]; split <;> simp [h']
  · exact h'

theorem isPending_pend_self {st : StreamId} (h : s.pendsAllowed) : (pend st s).isPending st = true := by
  simp [pend, h, State.isPending]

theorem pend_orderly (st : StreamId) : Orderly .nothing s (pend st s) := by
  have hp : ∀ x, s.isPending x = true → (pend st s).isPending x = true := fun x => isPending_pend s
  rw [pend_eq] at hp ⊢
  exact { pending := hp }

/-- A context that keeps its binding can be put in place. -/
theorem setCtx_orderly {st : StreamId} {c : Context} (h : c.standing.binding? = (s.standing st).binding?) :
    Orderly .nothing s (s.setCtx st c) := by
  have hb : ∀ x, ((s.setCtx st c).standing x).binding? = (s.standing x).binding? := fun x => by
    by_cases hx : x = st
    · subst hx; simpa [State.standing] using h
    · simp [State.standing, ctx_setCtx_ne s hx]
  refine { bindings := fun hl x y lane tag => ?_ }
  simp only [holdsPair, hb]
  exact hl x y lane tag

theorem setStanding_orderly {st : StreamId} {x : Standing} (h : x.binding? = (s.standing st).binding?) :
    Orderly .nothing s (s.setStanding st x) := setCtx_orderly s h

theorem lw_setLw_cases {k j : Lane} {w : Writer} : (s.setLw k w).lw j = if j = k then w else s.lw j := by
  split
  · next h => subst h; exact lw_setLw s j w
  · next h => exact lw_setLw_ne s h w

theorem lr_setLr_cases {k j : Lane} {r : Receiver} : (s.setLr k r).lr j = if j = k then r else s.lr j := by
  split
  · next h => subst h; exact lr_setLr s j r
  · next h => exact lr_setLr_ne s h r

/-- A Lane Writer that holds a frame can take another state in which it awaits as much, but for what ended. -/
theorem setLw_orderly {a : Ack} {k : Lane} {w : Writer} (hi : s.dc.device = .running ∨ s.lw k ≠ .idle ∨ w = .idle)
    (hw : (s.lw k).awaited ≤ w.awaited + a.lane k) : Orderly a s (s.setLw k w) where
  idle hr j hj := by
    rw [lw_setLw_cases]
    split
    · next h => subst h; rcases hi with h | h | h
                · exact absurd h hr
                · exact absurd hj h
                · exact h
    · exact hj
  lanes j := by
    rw [lw_setLw_cases]
    split
    · next h => subst h; show _ + _ ≤ _ + _ + _; simp only [setLw_rw]; omega
    · exact Nat.le_add_right _ _

/-- A receiver keeps its lock, opens no frame and keeps its staging within bounds. -/
structure Receiver.Tame (r r' : Receiver) : Prop where
  lock : r'.lock = r.lock := by rfl
  frame : r.frame = none → r'.frame = none := by exact id
  staging : r.staging.fits → r'.staging.fits := by exact id

/-- A receiver in range can be put in place of one, if it is so whenever that one is. -/
theorem setLr_orderly_of {k : Lane} {r : Receiver} (hf : (s.lr k).staging.fits → r.staging.fits)
    (hl : (s.lr k).lock.inRange ∧ ((∀ v, (s.lr k).lock ≠ .locked v) → (s.lr k).frame = none) →
      r.lock.inRange ∧ ((∀ v, r.lock ≠ .locked v) → r.frame = none)) :
    Orderly .nothing s (s.setLr k r) where
  staging h j := by
    rw [lr_setLr_cases]
    split
    · exact hf (h k)
    · exact h j
  locks h j := by
    rw [lr_setLr_cases]
    split
    · exact hl (h k)
    · exact h j

theorem setLr_orderly {k : Lane} {r : Receiver} (h : (s.lr k).Tame r) : Orderly .nothing s (s.setLr k r) :=
  setLr_orderly_of s h.staging fun ⟨h1, h2⟩ => by
    rw [h.lock]; exact ⟨h1, fun hv => h.frame (h2 hv)⟩

/-- A device half of a pending stream can be queued. -/
theorem enqueue_half_orderly {st : StreamId} (d : Bool) (a : Addr) (h : DeviceHalf)
    (hp : s.pendsAllowed → s.isPending st = true) :
    Orderly .nothing s (enqueue (.deviceHalfWrite st d a h) s) where
  made := ⟨[.deviceHalfWrite st d a h], fun p _ => by simp, by simp [Txn.isDeviceHalf], by
    intro hs x hx y hy
    rw [List.mem_singleton] at hx
    subst hx
    obtain rfl : st = y := by simpa [Txn.deviceHalfStream?] using hy
    exact hp hs⟩
  lanes k := by simp [Txn.ofLane]

theorem handHalf_orderly {st : StreamId} (a : Addr) (h : DeviceHalf)
    (hp : s.pendsAllowed → s.isPending st = true) : Orderly .nothing s (handHalf st a h s) :=
  enqueue_half_orderly s false a h hp

/-- A device half is queued and its stream pended. -/
theorem pend_enqueue_orderly (st : StreamId) (d : Bool) (a : Addr) (h : DeviceHalf) :
    Orderly .nothing s (pend st (enqueue (.deviceHalfWrite st d a h) s)) := by
  have hc : pend st (enqueue (.deviceHalfWrite st d a h) s) = enqueue (.deviceHalfWrite st d a h) (pend st s) := by
    rw [pend_eq, pend_eq]; rfl
  rw [hc]
  exact (pend_orderly s st).trans (enqueue_half_orderly _ d a h fun hs =>
    isPending_pend_self s (by simpa [State.pendsAllowed] using hs))

theorem askJob_orderly (st : StreamId) (kind : JobKind) : Orderly .nothing s (askJob st kind s) := by
  have hj := askJob_nodup st kind (s := s)
  rw [askJob_eq] at hj ⊢
  exact { jobs := hj, jobsStay := fun hr => if_neg fun h => hr h.1 }

/-- The job in hand goes on, or ends, if its read is not awaited or has just ended. -/
theorem setInHand_orderly {a : Ack} {j : Option JobInHand} (hj : s.walker.inHand = none → j = none)
    (hr : s.walker.readAwaited ≤ ({ s.walker with inHand := j } : Walker).readAwaited + a.job) :
    Orderly a s (s.setInHand j) := { handStays := fun _ h => hj h, reads := hr }

end

/-! ### Shared operations on streams -/

section
variable (s : State) (st : StreamId)

theorem mapOrder_orderly (f : CurrentOrder → CurrentOrder) : Orderly .nothing s (mapOrder st f s) :=
  setStanding_orderly s (by cases s.standing st <;> rfl)

theorem count_orderly (f : Counters → Counters) : Orderly .nothing s (count st f s) := mapOrder_orderly s st _

theorem enter_orderly (p : Phase) : Orderly .nothing s (enter st p s) := by
  unfold enter
  split
  · exact .refl _ s
  · next hs => exact (setStanding_orderly s (by rw [hs]; rfl)).trans (pend_orderly _ st)

/-- A bound stream that enters a phase is pending, where the device state allows it. -/
theorem isPending_enter {b : Binding} {q : Phase} (p : Phase) (hs : s.standing st = .bound b q)
    (h : (enter st p s).pendsAllowed) : (enter st p s).isPending st = true := by
  have h' : s.pendsAllowed := by simpa [State.pendsAllowed] using h
  simp only [enter, hs]
  exact isPending_pend_self _ h'

theorem standing_of_order {o : CurrentOrder} (h : s.order? st = some o) :
    ∃ b p, s.standing st = .bound b p := by
  cases hs : s.standing st with
  | idle => simp [State.order?, hs, Standing.order?] at h
  | bound b p => exact ⟨b, p, rfl⟩

theorem retire_orderly (outcome : OrderOutcome) (reason : Reason) (next : CurrentOrder → Phase) :
    Orderly .nothing s (retire st outcome reason next s) := by
  unfold retire
  split
  · exact .refl _ s
  · next o ho =>
    obtain ⟨b, p, hs⟩ := standing_of_order s st ho
    exact (enter_orderly s st _).trans (handHalf_orderly _ _ _ (isPending_enter s st _ hs))

theorem streamFault_orderly (code : FaultCode) : Orderly .nothing s (streamFault st code s) := by
  unfold streamFault
  split
  · exact .refl _ s
  · exact pend_orderly s st
  · next hs => exact (setStanding_orderly s (by rw [hs]; rfl)).trans (pend_orderly _ st)

end

/-! ### Frames in flight -/

section
variable (k : Lane) (s : State)

theorem stopStaging_orderly : Orderly .nothing s (stopStaging k s) :=
  setLr_orderly s
    { frame := fun h => by
        show (s.lr k).frame.map _ = none
        rw [h]; rfl
      staging := fun _ => Staging.fits_empty }

theorem haltingEnd_orderly (st : StreamId) : Orderly .nothing s (haltingEnd k st s) := by
  unfold haltingEnd
  split
  · split
    · exact retire_orderly ..
    · exact .refl _ s
  all_goals exact .refl _ s

theorem finishDrop_orderly {a : Ack} (d : DroppedFrame) (hw : (s.lw k).awaited ≤ a.lane k) :
    Orderly a s (finishDrop k d s) := by
  have h1 : Orderly a s (s.setLw k .idle) :=
    setLw_orderly s (.inr (.inr rfl)) (hw.trans (Nat.le_add_left _ _))
  unfold finishDrop
  dsimp only
  split
  · have h2 : Orderly a s (if d.countLost && !d.disowned then count d.stream Counters.addLost (s.setLw k .idle)
        else s.setLw k .idle) := by
      split
      · exact h1.trans (count_orderly ..)
      · exact h1
    generalize (if d.countLost && !d.disowned then count d.stream Counters.addLost (s.setLw k .idle)
        else s.setLw k .idle) = x at h2 ⊢
    have h3 : Orderly a s (if d.disowned then x else haltingEnd k d.stream x) := by
      split
      · exact h2
      · exact h2.trans (haltingEnd_orderly ..)
    split
    · exact h3
    · exact h3.trans (pend_enqueue_orderly ..)
  · exact h1

/-- A writer that holds a frame drops it and awaits what it awaited, but for what ended. -/
theorem setDrop_orderly {a : Ack} (d : DroppedFrame) (hi : s.lw k ≠ .idle)
    (hw : (s.lw k).awaited ≤ d.outstanding + a.lane k) : Orderly a s (setDrop k d s) := by
  unfold setDrop
  split
  · next h0 => exact finishDrop_orderly k s d (by omega)
  · exact setLw_orderly s (.inr (.inl hi)) hw

theorem startDrop_orderly {a : Ack} (d : DroppedFrame) (hi : s.lw k ≠ .idle)
    (hw : (s.lw k).awaited ≤ d.outstanding + a.lane k) : Orderly a s (startDrop k d s) :=
  (stopStaging_orderly k s).after (setDrop_orderly k (stopStaging k s) d hi hw)

theorem dropAnswered_orderly : Orderly (.ofLane k) s (dropAnswered k s) := by
  unfold dropAnswered
  split
  · next d hd =>
    refine setDrop_orderly k s _ (by simp [hd]) ?_
    simp only [hd, Writer.awaited, Ack.lane, if_true]
    omega
  all_goals exact .refl _ s

theorem dropped_outstanding {w : Writer} {n : Nat} {d : DroppedFrame} (h : w.dropped n = some d) :
    d.outstanding = n ∧ w ≠ .idle := by
  cases w <;> simp [Writer.dropped, plainDrop] at h <;> simp [← h]

theorem abandonFrame_orderly (st : StreamId) : Orderly .nothing s (abandonFrame k st s) := by
  unfold abandonFrame
  split
  · split
    · next d hd =>
      obtain ⟨hn, hi⟩ := dropped_outstanding hd
      exact startDrop_orderly k s d hi (by omega)
    · exact .refl _ s
  · exact .refl _ s

theorem reportLoss_orderly (why : LossReason) : Orderly .nothing s (reportLoss k why s) := by
  unfold reportLoss
  split
  case h_1 f _ _ issued hl =>
    exact (count_orderly s _ _).trans (startDrop_orderly k _ _ (by simp [count, mapOrder, hl])
      (by simp [count, mapOrder, hl, Writer.awaited, plainDrop]))
  case h_2 hl | h_3 hl =>
    exact startDrop_orderly k s _ (by simp [hl]) (by simp [hl, Writer.awaited, plainDrop])
  all_goals exact .refl _ s

theorem faultFrame_orderly {a : Ack} (f : FlightFrame) (slot : Option Nat) (code : FaultCode) (counted : Bool)
    {n : Nat} (hi : s.lw k ≠ .idle) (hw : (s.lw k).awaited ≤ n + a.lane k) :
    Orderly a s (faultFrame k f slot code counted n s) := by
  unfold faultFrame
  dsimp only
  have h1 : Orderly .nothing s (if counted then s else count f.stream Counters.addLost s) := by
    split
    · exact .refl _ s
    · exact count_orderly ..
  have hl : (if counted then s else count f.stream Counters.addLost s).lw k = s.lw k := by split <;> rfl
  generalize (if counted then s else count f.stream Counters.addLost s) = x at h1 hl ⊢
  have hl' : (streamFault f.stream code x).lw k = s.lw k := by
    unfold streamFault; split <;> simp [hl]
  exact h1.after ((streamFault_orderly x f.stream code).after
    (startDrop_orderly k _ _ (by rwa [hl']) (by rwa [hl'])))

theorem faultDropped_orderly {d : DroppedFrame} (code : FaultCode) (hl : s.lw k = .dropping d) :
    Orderly (.ofLane k) s (faultDropped k d code s) := by
  have hi : s.lw k ≠ .idle := by simp [hl]
  have hw : (s.lw k).awaited ≤ d.outstanding - 1 + (Ack.ofLane k).lane k := by
    simp only [hl, Writer.awaited, Ack.lane, if_true]; omega
  unfold faultDropped
  dsimp only
  split
  · exact setDrop_orderly k s _ hi hw
  · split
    · exact (pend_orderly s d.stream).after (setDrop_orderly k _ _ (by simpa using hi) (by simpa using hw))
    · exact faultFrame_orderly k s _ _ _ _ hi hw

theorem frameTxnFault_orderly (code : FaultCode) : Orderly (.ofLane k) s (frameTxnFault k code s) := by
  unfold frameTxnFault
  split
  · split
    case h_1 => exact .refl _ s
    case h_6 d hl => exact faultDropped_orderly k s code hl
    case h_2 hl | h_3 hl | h_4 hl | h_5 hl =>
      refine faultFrame_orderly k s _ _ _ _ (by simp [hl]) ?_
      simp only [hl, Writer.awaited, Ack.lane, if_true]
      grind
  · exact dropAnswered_orderly k s

theorem ofLane_of_commitLane {t : Txn} (h : t.commitLane? = some k) (j : Lane) : t.ofLane j = (k == j) := by
  cases t with
  | metadataWrite x _ _ | fillWrite x _ _ =>
    obtain rfl : x = k := by simpa [Txn.commitLane?] using h
    rfl
  | _ => simp [Txn.commitLane?] at h

/-- A write of a lane's commit is queued as its writer, which awaited none of them, comes to await it. -/
theorem enqueue_commit_orderly {a : Ack} {t : Txn} {w : Writer} (ht : t.commitLane? = some k)
    (hi : s.lw k ≠ .idle) (h0 : (s.lw k).awaited ≤ a.lane k) (hw : w.awaited = 1) :
    Orderly a s (enqueue t (s.setLw k w)) where
  idle _ j hj := by
    show (s.setLw k w).lw j = .idle
    rw [lw_setLw_cases]
    split
    · next h => subst h; exact absurd hj hi
    · exact hj
  made := ⟨[t], fun p _ => by simp, by simp [ht], by
    intro _ x hx y hy
    rw [List.mem_singleton] at hx
    subst hx
    cases x <;> simp [Txn.commitLane?, Txn.deviceHalfStream?] at ht hy⟩
  lanes j := by
    show (s.rw.queue ++ [t]).countP _ + _ ≤ _ + ((s.setLw k w).lw j).awaited + _
    rw [lw_setLw_cases, List.countP_append]
    by_cases hj : j = k
    · subst hj
      have : [t].countP (Txn.ofLane j) ≤ 1 := List.countP_le_length
      rw [if_pos rfl]
      omega
    · have : [t].countP (Txn.ofLane j) = 0 := by
        simp [ofLane_of_commitLane k ht, Ne.symm hj]
      rw [if_neg hj]
      omega

theorem commitFrame_orderly {a : Ack} (o : CurrentOrder) (f : FlightFrame) (p : Placement) (value : Word)
    (hi : s.lw k ≠ .idle) (h0 : (s.lw k).awaited ≤ a.lane k) : Orderly a s (commitFrame k o f p value s) :=
  enqueue_commit_orderly k s rfl hi h0 rfl

theorem frameDecision_orderly : Orderly .nothing s (frameDecision k s) := by
  unfold frameDecision
  split
  case h_1 f p hl =>
    split
    case h_1 =>
      split
      case isTrue h0 =>
        have hw : (s.lw k).awaited ≤ 0 := by simp [hl, Writer.awaited, h0]
        split
        · exact ((setLw_orderly s (.inr (.inr rfl)) (hw.trans (Nat.zero_le _))).trans
            (count_orderly ..)).trans (haltingEnd_orderly ..)
        · exact commitFrame_orderly k s _ _ _ _ (by simp [hl]) hw
      case isFalse => exact .refl _ s
    all_goals exact .refl _ s
  all_goals exact .refl _ s

theorem advance_orderly : Orderly .nothing s (advance k s) := by
  unfold advance
  split
  case h_1 f p hl =>
    split
    · split
      · exact (setLw_orderly s (.inr (.inl (by simp [hl]))) (by simp [hl, Writer.awaited])).trans
          (frameDecision_orderly k _)
      · exact .refl _ s
    · exact .refl _ s
  all_goals exact .refl _ s

theorem reportEnd_orderly (e : FrameEnd) : Orderly .nothing s (reportEnd k e s) := by
  unfold reportEnd
  split
  case h_1 hl => exact setLw_orderly s (.inr (.inl (by simp [hl]))) (by simp [hl, Writer.awaited])
  case h_2 hl =>
    exact (setLw_orderly s (.inr (.inl (by simp [hl]))) (by simp [hl, Writer.awaited])).trans (advance_orderly k _)
  case h_3 hl =>
    exact (setLw_orderly s (.inr (.inl (by simp [hl]))) (by simp [hl, Writer.awaited])).trans
      (frameDecision_orderly k _)
  all_goals exact .refl _ s

theorem progress_orderly (st : StreamId) : Orderly .nothing s (progress st s) := by
  unfold progress
  split
  · exact .refl _ s
  · split
    · exact (mapOrder_orderly s st _).trans (pend_enqueue_orderly _ st false _ _)
    · exact .refl _ s

theorem afterCommit_orderly (st : StreamId) : Orderly .nothing s (afterCommit st s) := by
  unfold afterCommit
  split
  case h_1 => split <;> exact retire_orderly ..
  case h_2 =>
    split
    · exact retire_orderly ..
    · exact progress_orderly ..
  all_goals exact .refl _ s

theorem completeCommit_orderly {a : Ack} (f : FlightFrame) (p : Placement) (missedBy : Half)
    (hw : (s.lw k).awaited ≤ a.lane k) : Orderly a s (completeCommit k f p missedBy s) := by
  unfold completeCommit
  dsimp only
  refine Orderly.trans (.after (setCtx_orderly s ?_) (setLw_orderly _ (.inr (.inr rfl))
    (hw.trans (Nat.le_add_left _ _)))) (afterCommit_orderly _ _)
  show ((s.standing f.stream).mapOrder _).binding? = _
  cases s.standing f.stream <;> rfl

theorem Staging.fits_cut {g : Staging} (h : g.fits) (n : Nat) : ({ g with bytes := g.bytes.take n } : Staging).fits := by
  obtain ⟨h1, h2⟩ := h
  exact ⟨by simp only [List.length_take]; omega, h2⟩

theorem bindFrame_orderly {a : Ack} (o : CurrentOrder) (f : FlightFrame) (slot : Nat) (fill : Half)
    (hi : s.lw k ≠ .idle) (hw : (s.lw k).awaited ≤ a.lane k) : Orderly a s (bindFrame k o f slot fill s) := by
  unfold bindFrame
  dsimp only
  have h1 := mapOrder_orderly s f.stream fun o => { o with cursor := slot }
  refine Orderly.trans ?_ (advance_orderly k _)
  refine Orderly.after (h1.trans (setLr_orderly _ ?_)) (setLw_orderly _ (.inr (.inl hi))
    (hw.trans (Nat.le_add_left _ _)))
  exact { staging := fun h => Staging.fits_cut h _ }

theorem searchAnswered_orderly (data : Read16) {f : FlightFrame} {slot read : Nat}
    (hl : s.lw k = .searching f slot read true) : Orderly (.ofLane k) s (searchAnswered k data f slot read s) := by
  have hi : s.lw k ≠ .idle := by simp [hl]
  have hw : (s.lw k).awaited ≤ (Ack.ofLane k).lane k := by simp [hl, Writer.awaited, Ack.lane]
  unfold searchAnswered
  split
  · exact .refl _ s
  · split
    · exact bindFrame_orderly k s _ _ _ _ hi hw
    · split
      · exact setLw_orderly s (.inr (.inl hi)) (hw.trans (Nat.le_add_left _ _))
      · exact (count_orderly ..).after (startDrop_orderly k _ _ hi (hw.trans (Nat.le_add_left _ _)))

theorem dataWriteOk_orderly : Orderly (.ofLane k) s (dataWriteOk k s) := by
  have hw : ∀ p : Placement, p.outstanding ≤ p.outstanding - 1 + (Ack.ofLane k).lane k := fun p => by
    simp only [Ack.lane, if_true]; omega
  unfold dataWriteOk
  split
  case h_1 f p hl => exact setLw_orderly s (.inr (.inl (by simp [hl]))) (by rw [hl]; exact hw p)
  case h_2 f p hl =>
    exact (setLw_orderly s (.inr (.inl (by simp [hl]))) (by rw [hl]; exact hw p)).trans (frameDecision_orderly k _)
  case h_3 => exact dropAnswered_orderly k s
  all_goals exact .refl _ s

theorem slotReadOk_orderly (data : Read16) : Orderly (.ofLane k) s (slotReadOk k data s) := by
  unfold slotReadOk
  split
  case h_1 hl => exact searchAnswered_orderly k s data hl
  case h_2 => exact dropAnswered_orderly k s
  all_goals exact .refl _ s

theorem metadataOk_orderly : Orderly (.ofLane k) s (metadataOk k s) := by
  unfold metadataOk
  split
  case h_1 f p m hl =>
    split
    · exact enqueue_commit_orderly k s rfl (by simp [hl]) (by simp [hl, Writer.awaited, Ack.lane]) rfl
    · exact .refl _ s
  case h_2 => exact dropAnswered_orderly k s
  all_goals exact .refl _ s

theorem fillOk_orderly : Orderly (.ofLane k) s (fillOk k s) := by
  unfold fillOk
  split
  case h_1 hl => exact completeCommit_orderly k s _ _ _ (by simp [hl, Writer.awaited, Ack.lane])
  case h_2 => exact dropAnswered_orderly k s
  all_goals exact .refl _ s

end

end Sys2Proof.Machine

/-! PROOFS. The requests, frame starts, trigger edges, symbols and jobs of the walker are orderly. -/

namespace Sys2Proof.Machine

/-! ### Requests (R12 to R23) -/

section
variable (s : State) (st : StreamId)

theorem setCtx_orderly_of {c : Context} (h : BindingLaw s → BindingLaw (s.setCtx st c)) :
    Orderly .nothing s (s.setCtx st c) := { bindings := h }

theorem answer_orderly (number : Byte) (r : RequestResult) : Orderly .nothing s (answer st number r s) := by
  unfold answer
  refine Orderly.trans ?_ (pend_orderly _ st)
  exact setCtx_orderly s rfl

theorem holdsPair_eq_any (lane : Lane) (tag : Tag) (x : StreamId) :
    holdsPair lane tag s x = (s.standing x).binding?.any fun b => b.isPair lane tag := by
  unfold holdsPair; cases (s.standing x).binding? <;> rfl

theorem holdsPair_setCtx (c : Context) (lane : Lane) (tag : Tag) (x : StreamId) :
    holdsPair lane tag (s.setCtx st c) x =
      if x = st then c.standing.binding?.any fun b => b.isPair lane tag
      else holdsPair lane tag s x := by
  by_cases h : x = st
  · subst h; simp [holdsPair_eq_any, State.standing]
  · simp [holdsPair_eq_any, State.standing, ctx_setCtx_ne s h, h]

/-- A stream bound to a pair that no other stream holds leaves every pair with one holder. -/
theorem bindingLaw_setCtx_bound {c : Context} {b : Binding} (hc : c.standing.binding? = some b)
    (hfree : ∀ x, x ≠ st → holdsPair b.lane b.tag s x = false) (h : BindingLaw s) :
    BindingLaw (s.setCtx st c) := by
  intro x y lane tag hx hy
  have free : ∀ z, z ≠ st → b.isPair lane tag = true → holdsPair lane tag s z = false := fun z hz hb => by
    obtain ⟨rfl, rfl⟩ : b.lane = lane ∧ b.tag = tag := by simpa [Binding.isPair] using hb
    exact hfree z hz
  simp only [holdsPair_setCtx, hc] at hx hy
  split at hx <;> split at hy
  · simp_all
  · next hy' => exact absurd hy (by simp [free y hy' hx])
  · next hx' _ => exact absurd hx (by simp [free x hx' hy])
  · exact h x y lane tag hx hy

theorem bindingLaw_setCtx_idle {c : Context} (hc : c.standing.binding? = none) (h : BindingLaw s) :
    BindingLaw (s.setCtx st c) := by
  intro x y lane tag hx hy
  simp only [holdsPair_setCtx, hc] at hx hy
  split at hx
  · simp at hx
  · split at hy
    · simp at hy
    · exact h x y lane tag hx hy

/-- A START whose checks pass names a pair that no other stream holds (R14). -/
theorem free_of_startResult {b : Binding} {head : Addr} (h : startResult st b head s = .done) (x : StreamId)
    (hx : x ≠ st) : holdsPair b.lane b.tag s x = false := by
  unfold startResult at h
  split at h
  · simp at h
  · next hn =>
    have hx' : x ∈ allStreams := List.mem_finRange x
    exact Bool.eq_false_iff.mpr fun hp => hn (List.any_eq_true.mpr ⟨x, hx', by simp [hx, hp]⟩)

theorem actStart_orderly (a : Anchor) : Orderly .nothing s (actStart st a s) := by
  unfold actStart
  split
  · exact answer_orderly ..
  · split
    · exact answer_orderly ..
    · next b _ =>
      split
      · next hr => exact (setCtx_orderly_of s st (bindingLaw_setCtx_bound s st (b := b) rfl
          (free_of_startResult s st hr))).trans (pend_orderly _ st)
      · exact answer_orderly ..

theorem actHalt_orderly (number : Byte) : Orderly .nothing s (actHalt st number s) := by
  unfold actHalt
  split
  case h_1 => exact (enter_orderly s st _).trans (answer_orderly ..)
  case h_2 => exact (retire_orderly s st _ _ _).trans (answer_orderly ..)
  case h_3 =>
    split
    · exact (enter_orderly s st _).trans (answer_orderly ..)
    · exact (retire_orderly s st _ _ _).trans (answer_orderly ..)
  case h_4 => exact (enter_orderly s st _).trans (answer_orderly ..)
  all_goals exact answer_orderly ..

theorem actResume_orderly (number : Byte) : Orderly .nothing s (actResume st number s) := by
  unfold actResume
  split
  case h_1 => exact (enter_orderly s st _).trans (answer_orderly ..)
  all_goals exact answer_orderly ..

theorem lw_disown (k : Lane) : (disown st s).lw k = (s.lw k).disownedBy st := by
  simp [disown, State.lw]

theorem awaited_disownedBy (w : Writer) : (w.disownedBy st).awaited = w.awaited := by
  cases w <;> rfl

theorem disown_orderly : Orderly .nothing s (disown st s) where
  idle _ k h := by rw [lw_disown, h]; rfl
  table p hb := by
    have hp : ((fun e : Entry => p e.txn) ∘ fun e : Entry => { e with txn := e.txn.disownedBy st })
        = fun e => p e.txn := funext fun e => hb st e.txn
    simp only [disown, List.countP_map, hp]
  made := ⟨[], fun p hb => by
    have hp : p ∘ Txn.disownedBy st = p := funext fun x => hb st x
    simp [disown, List.countP_map, hp], by simp, by simp⟩
  lanes k := by
    have hp : Txn.ofLane k ∘ Txn.disownedBy st = Txn.ofLane k := funext fun x => by cases x <;> rfl
    rw [lw_disown, awaited_disownedBy]
    simp [disown, List.countP_map, hp]

theorem actForget_orderly (number : Byte) : Orderly .nothing s (actForget st number s) := by
  unfold actForget
  split
  case h_1 | h_2 | h_3 =>
    exact ((setCtx_orderly_of s st (bindingLaw_setCtx_idle s st rfl)).trans (disown_orderly _ st)).trans
      (answer_orderly ..)
  all_goals exact answer_orderly ..

theorem actRequest_orderly (a : Anchor) : Orderly .nothing s (actRequest st a s) := by
  unfold actRequest
  split
  · exact actStart_orderly ..
  · split
    · exact actHalt_orderly ..
    · split
      · exact actResume_orderly ..
      · split
        · exact actForget_orderly ..
        · exact answer_orderly ..

theorem takeRequest_orderly (number : Byte) {act : State → State} (h : Orderly .nothing s (act s)) :
    Orderly .nothing s (takeRequest st number act s) := by
  unfold takeRequest
  split
  · exact h
  · exact .refl _ s

end

/-! ### Frame starts, trigger edges and arm deadlines -/

section
variable (k : Lane) (s : State)

theorem meetFrame_orderly (st : StreamId) (o : CurrentOrder) (h : FrameHeader) (hr : s.dc.device = .running) :
    Orderly .nothing s (meetFrame st o k h s).2 := by
  unfold meetFrame
  dsimp only
  split
  · exact mapOrder_orderly ..
  · split
    · next hi => exact (mapOrder_orderly s st CurrentOrder.meet).trans (setLw_orderly _ (.inl hr) (by rw [hi]; simp [Writer.awaited]))
    · exact (mapOrder_orderly s st CurrentOrder.meet).trans (count_orderly ..)

theorem unclaim_orderly (st : StreamId) : Orderly .nothing s (unclaim st s) := setCtx_orderly s rfl

theorem frameStart_orderly (h : FrameHeader) (hr : s.dc.device = .running) :
    Orderly .nothing s (frameStart k h s).2 := by
  unfold frameStart
  split
  · exact .refl _ s
  · split
    case h_1 => exact meetFrame_orderly k s _ _ h hr
    case h_2 =>
      split
      · exact (enter_orderly s _ _).trans (meetFrame_orderly k _ _ _ h (by rw [enter_dc]; exact hr))
      · dsimp only
        exact count_orderly ..
    all_goals exact unclaim_orderly s _

@[simp] theorem enter_lr (st : StreamId) (p : Phase) (j : Lane) : (enter st p s).lr j = s.lr j := by
  unfold enter; split <;> simp

theorem meetFrame_lr (st : StreamId) (o : CurrentOrder) (h : FrameHeader) (j : Lane) :
    (meetFrame st o k h s).2.lr j = s.lr j := by
  unfold meetFrame
  dsimp only
  split
  · rfl
  · split <;> rfl

theorem frameStart_lr (h : FrameHeader) (j : Lane) : (frameStart k h s).2.lr j = s.lr j := by
  unfold frameStart
  split
  · rfl
  · split
    case h_1 => exact meetFrame_lr ..
    case h_2 =>
      split
      · exact (meetFrame_lr ..).trans (enter_lr ..)
      · rfl
    all_goals rfl

theorem edgeForStream_orderly (e : Edge) (st : StreamId) : Orderly .nothing s (edgeForStream k e st s) := by
  unfold edgeForStream
  split
  case h_1 =>
    split
    · exact enter_orderly ..
    · exact .refl _ s
  case h_2 =>
    split
    · exact count_orderly ..
    · exact .refl _ s
  all_goals exact .refl _ s

theorem takeEdge_orderly (e : Edge) : Orderly .nothing s (takeEdge k e s) := by
  unfold takeEdge
  split
  · exact Orderly.foldl (fun s st => edgeForStream_orderly k s e st) _ s
  · exact .refl _ s

theorem expireArm_orderly (st : StreamId) : Orderly .nothing s (expireArm st s) := by
  unfold expireArm
  split
  case h_1 =>
    split
    · exact retire_orderly ..
    · exact .refl _ s
  all_goals exact .refl _ s

end

/-! ### The receivers -/

section
variable (k : Lane) (s : State)

theorem onLr_orderly {f : Receiver → Receiver} (h : (s.lr k).Tame (f (s.lr k))) :
    Orderly .nothing s (onLr k f s) := setLr_orderly s h

/-- A locked receiver can open a frame, and keep its lock. -/
theorem onLr_orderly_locked {f : Receiver → Receiver} {v w : Nat} (hv : (s.lr k).lock = .locked v)
    (hw : (f (s.lr k)).lock = .locked w) (hr : v < 4 → w < 4)
    (hg : (f (s.lr k)).staging = (s.lr k).staging) : Orderly .nothing s (onLr k f s) :=
  setLr_orderly_of s (by rw [hg]; exact id) fun ⟨h1, _⟩ => by
    rw [hv] at h1
    exact ⟨by rw [hw]; exact hr h1, fun h => absurd hw (h w)⟩

/-- A receiver with no frame open can take any lock in range. -/
theorem onLr_orderly_closed {f : Receiver → Receiver} (hf : (s.lr k).frame = none → (f (s.lr k)).frame = none)
    (hn : (f (s.lr k)).frame = none ∨ ∀ v, (s.lr k).lock ≠ .locked v)
    (hl : (s.lr k).lock.inRange → (f (s.lr k)).lock.inRange)
    (hg : (f (s.lr k)).staging = (s.lr k).staging) : Orderly .nothing s (onLr k f s) :=
  setLr_orderly_of s (by rw [hg]; exact id) fun ⟨h1, h2⟩ =>
    ⟨hl h1, fun _ => hn.elim id fun h => hf (h2 h)⟩

theorem clearRun_orderly {run : Nat} (h : (s.lr k).lock = .hunting run) : Orderly .nothing s (clearRun k s) :=
  onLr_orderly_closed k s id (.inr (by simp [h])) (fun _ => Nat.zero_lt_succ _) rfl

theorem idleSymbol_orderly : Orderly .nothing s (idleSymbol k s) := by
  unfold idleSymbol
  split
  · exact .refl _ s
  · exact .refl _ s
  · next run h =>
    refine onLr_orderly_closed k s id (.inr (by simp [h])) (fun hr => ?_) rfl
    have hr' : run < 32 := by simpa [h, Lock.inRange] using hr
    dsimp only
    split
    · exact Nat.zero_lt_succ _
    · next hn =>
      have hn' : run + 1 ≠ 32 := hn
      show run + 1 < 32
      omega

theorem loseIfOffered_orderly (a : AcceptedFrame) (why : LossReason) :
    Orderly .nothing s (loseIfOffered k a why s) := by
  unfold loseIfOffered
  split
  · exact reportLoss_orderly ..
  all_goals exact .refl _ s

theorem frameChecks_orderly (a : AcceptedFrame) (failed : Bool) : Orderly .nothing s (frameChecks k a failed s) := by
  unfold frameChecks
  dsimp only
  have h1 : Orderly .nothing s (onLr k (fun r => { r with
      frame := none
      lock := if failed || decide (a.received ≠ a.declared.toNat) then r.lock else .locked 0
      counters := countIf (a.dispatched && failed) LaneCounters.checkFailure
        (countIf (a.dispatched && decide (a.received ≠ a.declared.toNat)) LaneCounters.lengthError r.counters) })
      s) := by
    refine onLr_orderly_closed k s (fun _ => rfl) (.inl rfl) (fun hr => ?_) rfl
    dsimp only
    split
    · exact hr
    · exact Nat.zero_lt_succ _
  generalize onLr k _ s = x at h1 ⊢
  split
  case h_3 =>
    split
    · exact h1.trans (reportLoss_orderly ..)
    · exact h1.trans (reportEnd_orderly ..)
  all_goals exact h1

section
variable {k s} {v : Nat} (hv : (s.lr k).lock = .locked v)
include hv

theorem startCuts_orderly (a : AcceptedFrame) : Orderly .nothing s (startCuts k a s) :=
  (onLr_orderly_locked k s hv hv id rfl).trans (loseIfOffered_orderly ..)

theorem abortCuts_orderly (a : AcceptedFrame) : Orderly .nothing s (abortCuts k a s) :=
  (onLr_orderly_locked k s hv hv id rfl).trans (loseIfOffered_orderly ..)

theorem acceptHeader_orderly (h : FrameHeader) (crc : Half) : Orderly .nothing s (acceptHeader k h crc s) := by
  unfold acceptHeader
  split
  · next hr =>
    have h1 := frameStart_orderly k s h hr
    have hl := frameStart_lr k s h k
    exact h1.trans (onLr_orderly_locked k _ (hl ▸ hv) (hl ▸ hv) id rfl)
  · exact onLr_orderly_locked k s hv hv id rfl

theorem headerByte_orderly (bytes : List Byte) (crc : Half) (b : Byte) :
    Orderly .nothing s (headerByte k bytes crc b s) := by
  unfold headerByte
  dsimp only
  split
  · exact onLr_orderly_locked k s hv hv id rfl
  · split
    · split
      · exact acceptHeader_orderly hv _ _
      · exact onLr_orderly_locked k s hv hv id rfl
    · exact onLr_orderly_locked k s hv hv id rfl

end

theorem markTruncated_orderly : Orderly .nothing s (markTruncated k s) := by
  unfold markTruncated
  split
  case h_1 hl | h_2 hl => exact setLw_orderly s (.inr (.inl (by simp [hl]))) (by simp [hl, Writer.awaited])
  all_goals exact .refl _ s

theorem stageByte_orderly (a : AcceptedFrame) (b : Byte) (hf : (s.lr k).frame ≠ none) :
    Orderly .nothing s (stageByte k a b s) := by
  unfold stageByte
  dsimp only
  split
  · next hr =>
    split
    · exact markTruncated_orderly k s
    · exact onLr_orderly k s { staging := fun h => Staging.fits_push h hr b }
  · exact (onLr_orderly k s { frame := fun h => absurd h hf }).trans (reportLoss_orderly ..)

theorem payloadByte_orderly (a : AcceptedFrame) (b : Byte) (hf : (s.lr k).frame ≠ none) :
    Orderly .nothing s (payloadByte k a b s) := by
  unfold payloadByte
  dsimp only
  split
  case h_3 =>
    have h1 : ∀ x, Orderly .nothing s (onLr k (Receiver.setFrame (some x)) s) := fun x =>
      onLr_orderly k s { frame := fun h => absurd h hf }
    split
    · exact (h1 _).trans (stageByte_orderly k _ _ _ (by simp [onLr, Receiver.setFrame]))
    · exact h1 _
  all_goals exact onLr_orderly k s { frame := fun h => absurd h hf }

theorem startSymbol_orderly : Orderly .nothing s (startSymbol k s) := by
  unfold startSymbol
  split
  case h_1 => exact .refl _ s
  case h_2 h => exact clearRun_orderly k s h
  case h_3 v hv =>
    split
    case h_3 | h_4 => exact startCuts_orderly hv _
    all_goals exact onLr_orderly_locked k s hv hv id rfl

theorem endSymbol_orderly : Orderly .nothing s (endSymbol k s) := by
  unfold endSymbol
  split
  case h_1 => exact .refl _ s
  case h_2 h => exact clearRun_orderly k s h
  case h_3 v hv =>
    split
    case h_1 => exact .refl _ s
    case h_4 => exact frameChecks_orderly k s _ _
    all_goals exact onLr_orderly_locked k s hv hv id rfl

theorem abortSymbol_orderly : Orderly .nothing s (abortSymbol k s) := by
  unfold abortSymbol
  split
  case h_1 => exact .refl _ s
  case h_2 h => exact clearRun_orderly k s h
  case h_3 v hv =>
    split
    case h_1 => exact .refl _ s
    case h_2 => exact onLr_orderly_locked k s hv hv id rfl
    all_goals exact abortCuts_orderly hv _

theorem loseOpen_orderly (f : Option OpenFrame) (why : LossReason) : Orderly .nothing s (loseOpen k f why s) := by
  unfold loseOpen
  split
  case h_1 | h_2 => exact loseIfOffered_orderly ..
  all_goals exact .refl _ s

theorem codeViolation_orderly : Orderly .nothing s (codeViolation k s) := by
  unfold codeViolation
  split
  case h_1 => exact .refl _ s
  case h_2 h =>
    exact onLr_orderly_closed k s id (.inr (by simp [h])) (fun _ => Nat.zero_lt_succ _) rfl
  case h_3 v hv =>
    dsimp only
    split
    · refine Orderly.trans (onLr_orderly_closed k s ?_ ?_ (fun _ => ?_) ?_) (loseOpen_orderly ..)
      · exact fun _ => rfl
      · exact .inl rfl
      · exact Nat.zero_lt_succ _
      · rfl
    · next hn =>
      refine Orderly.trans (onLr_orderly_closed k s ?_ ?_ (fun hr => ?_) ?_) (loseOpen_orderly ..)
      · exact fun _ => rfl
      · exact .inl rfl
      · have hr' : v < 4 := by simpa [hv, Lock.inRange] using hr
        have hn' : v + 1 ≠ 4 := hn
        show v + 1 < 4
        omega
      · rfl

theorem dataByte_orderly (b : Byte) : Orderly .nothing s (dataByte k b s) := by
  unfold dataByte
  split
  case h_1 => exact .refl _ s
  case h_2 h => exact clearRun_orderly k s h
  case h_3 v hv =>
    split
    case h_1 => exact .refl _ s
    case h_2 => exact headerByte_orderly hv _ _ _
    case h_3 hf => exact payloadByte_orderly k s _ _ (by simp [hf])
    case h_4 => exact onLr_orderly_locked k s hv hv id rfl
    case h_5 => exact frameChecks_orderly k s _ _

theorem sampleLine_orderly : Orderly .nothing s (sampleLine k s) := by
  have h1 : Orderly .nothing s (s.setLr k { s.lr k with heldLevel := some (s.lr k).line, sampled := true }) :=
    setLr_orderly s {}
  unfold sampleLine
  dsimp only
  split
  · exact .refl _ s
  · split
    · exact h1
    · split
      · exact h1
      · exact h1.trans (takeEdge_orderly ..)

theorem moveLine_orderly (level : Bool) : Orderly .nothing s (moveLine k level s) := onLr_orderly k s {}

theorem lr_map_newMicrosecond (j : Lane) :
    ({ s with receivers := s.receivers.map Receiver.newMicrosecond } : State).lr j
      = (s.lr j).newMicrosecond := by simp [State.lr]

theorem tick_orderly : Orderly .nothing s (tick s) := by
  unfold tick
  split
  · exact .refl _ s
  · dsimp only
    have h1 := Orderly.foldl (fun s k => sampleLine_orderly k s) allLanes s
    generalize allLanes.foldl (fun s k => sampleLine k s) s = x at h1 ⊢
    have hl := lr_map_newMicrosecond { x with dc := { x.dc with timeBase := x.dc.timeBase + 1 } }
    exact h1.trans
      { staging := fun h j => by rw [hl]; exact h j
        locks := fun h j => by rw [hl]; exact h j }

end

/-! ### The Chain Walker -/

section
variable (s : State)

theorem readAwaited_le_one (w : Walker) : w.readAwaited ≤ 1 := by
  unfold Walker.readAwaited; split
  · split <;> simp
  · simp

theorem endJob_orderly {a : Ack} (h : s.walker.readAwaited ≤ a.job) : Orderly a s (endJob s) :=
  setInHand_orderly s (fun _ => rfl) (h.trans (Nat.le_add_left _ _))

/-- The job in hand ends when its read has. -/
theorem endJob_orderly_ofJob : Orderly .ofJob s (endJob s) := endJob_orderly s (readAwaited_le_one _)

theorem setStage_orderly {a : Ack} (stage : JobStage) (h : s.walker.readAwaited ≤ a.job) :
    Orderly a s (setStage stage s) :=
  setInHand_orderly s (by intro h; rw [h]; rfl) (h.trans (Nat.le_add_left _ _))

@[simp] theorem streamFault_walker (st : StreamId) (code : FaultCode) :
    (streamFault st code s).walker = s.walker := by
  unfold streamFault; split <;> simp

theorem beginFetch_orderly {a : Ack} (st : StreamId) (b : Binding) (x : Addr) (h : s.walker.readAwaited ≤ a.job) :
    Orderly a s (beginFetch st b x s) := by
  unfold beginFetch
  split
  · exact setStage_orderly s _ h
  · exact (streamFault_orderly s st _).after (endJob_orderly _ (by simpa using h))

theorem goOn_orderly {a : Ack} (st : StreamId) (h : s.walker.readAwaited ≤ a.job) : Orderly a s (goOn st s) := by
  unfold goOn
  split
  case h_1 => exact beginFetch_orderly s st _ _ h
  case h_2 | h_3 => exact setStage_orderly s _ h
  all_goals exact endJob_orderly s h

theorem workFetch_orderly (j : Job) (h : s.walker.readAwaited = 0) : Orderly .nothing s (workFetch j s) := by
  unfold workFetch
  split
  case h_1 => exact beginFetch_orderly s _ _ _ h.le
  all_goals exact endJob_orderly s h.le

theorem workLink_orderly (j : Job) (h : s.walker.readAwaited = 0) : Orderly .nothing s (workLink j s) := by
  unfold workLink
  split
  case h_1 => exact setStage_orderly s _ h.le
  all_goals exact endJob_orderly s h.le

theorem takeJob_orderly (kind : JobKind) {work : Job → State → State}
    (hw : ∀ j x, x.walker.readAwaited = 0 → Orderly .nothing x (work j x)) :
    Orderly .nothing s (takeJob kind work s) := by
  unfold takeJob
  split
  · exact .refl _ s
  · next j rest hq =>
    split
    · next h =>
      obtain ⟨hr, hn, _⟩ := h
      have h0 : s.walker.readAwaited = 0 := by simp [Walker.readAwaited, hn]
      have hjobs : QueueLaw s → (rest.map Job.stream).Nodup := fun h => by
        rw [QueueLaw, hq] at h
        exact (List.nodup_cons.mp h).2
      refine Orderly.trans ?_ (hw j _ rfl)
      exact
        { jobs := hjobs
          jobsStay := fun h => absurd hr h
          handStays := fun h => absurd hr h
          reads := h0.le.trans (Nat.zero_le _) }
    · exact .refl _ s

theorem issueOrderRead_orderly : Orderly .nothing s (issueOrderRead s) := by
  unfold issueOrderRead
  split
  case h_1 job x hh =>
    have h0 : s.walker.readAwaited = 0 := by simp [Walker.readAwaited, hh, JobStage.readIssued]
    split
    · split
      · exact setStage_orderly s _ h0.le
      · exact endJob_orderly s h0.le
    · exact .refl _ s
  all_goals exact .refl _ s

theorem halfEnded_orderly : Orderly .nothing s (halfEnded s) := by
  unfold halfEnded
  split
  case h_1 job x n hh => exact setStage_orderly s _ (by simp [Walker.readAwaited, hh, JobStage.readIssued])
  all_goals exact .refl _ s

theorem anchorReadOk_orderly (data : Read16) : Orderly .ofJob s (anchorReadOk data s) := by
  unfold anchorReadOk
  split
  · exact .refl _ s
  · next st _ =>
    split
    · dsimp only
      refine Orderly.after ?_ (goOn_orderly _ st (readAwaited_le_one _))
      split
      · exact actRequest_orderly ..
      · exact .refl _ s
    · exact endJob_orderly_ofJob s

theorem holdsFetch_some {st : StreamId} {a : Addr} {b : Binding} (h : holdsFetch st a s = some b) :
    s.standing st = .bound b (.fetching (.fetch a)) := by
  unfold holdsFetch at h
  split at h
  · next hs =>
    split at h
    · next ha => simp only [Option.some.injEq] at h; rw [hs, ha, h]
    · simp at h
  all_goals simp at h

/-- A device half written as its stream enters a phase. -/
theorem handHalf_enter_orderly {st : StreamId} {b : Binding} {q : Phase} (hs : s.standing st = .bound b q)
    (p : Phase) (a : Addr) (h : DeviceHalf) : Orderly .nothing s (handHalf st a h (enter st p s)) :=
  (enter_orderly s st p).trans (handHalf_orderly _ a h (isPending_enter s st p hs))

theorem judgeOrder_orderly {st : StreamId} {b b' : Binding} {q : Phase} {a : Addr} (data : Read128)
    (hs : s.standing st = .bound b' q) : Orderly .nothing s (judgeOrder st b a data s) := by
  unfold judgeOrder
  split
  · exact streamFault_orderly ..
  · split
    · exact handHalf_enter_orderly s hs _ _ _
    · split <;> exact handHalf_enter_orderly s hs _ _ _

theorem orderReadOk_orderly (data : Read128) : Orderly .ofJob s (orderReadOk data s) := by
  unfold orderReadOk
  split
  · exact .refl _ s
  · split
    · split
      · next hb => exact (judgeOrder_orderly s data (holdsFetch_some s hb)).after (endJob_orderly_ofJob _)
      · exact endJob_orderly_ofJob s
    · exact endJob_orderly_ofJob s

theorem followLink_orderly (st : StreamId) (a link : Addr) : Orderly .nothing s (followLink st a link s) := by
  unfold followLink
  split
  · exact .refl _ s
  · split
    · exact enter_orderly ..
    · split
      · exact (enter_orderly s st _).trans (askJob_orderly ..)
      · exact streamFault_orderly ..
  · split
    · exact .refl _ s
    · split
      · exact (enter_orderly s st _).trans (askJob_orderly ..)
      · exact streamFault_orderly ..

theorem linkReadOk_orderly (data : Read16) : Orderly .ofJob s (linkReadOk data s) := by
  unfold linkReadOk
  split
  · exact .refl _ s
  · split
    · exact (followLink_orderly ..).after (endJob_orderly_ofJob _)
    · exact endJob_orderly_ofJob s

theorem orderReadFaulted_orderly : Orderly .ofJob s (orderReadFaulted s) := by
  unfold orderReadFaulted
  split
  · exact .refl _ s
  · split
    · exact (streamFault_orderly ..).after (endJob_orderly_ofJob _)
    · exact endJob_orderly_ofJob s

theorem linkReadFaulted_orderly : Orderly .ofJob s (linkReadFaulted s) := by
  unfold linkReadFaulted
  split
  · exact .refl _ s
  · split
    · exact (streamFault_orderly ..).after (endJob_orderly_ofJob _)
    · exact endJob_orderly_ofJob s

theorem endAwait_orderly (st : StreamId) : Orderly .nothing s (endAwait st s) := by
  unfold endAwait
  split
  case h_1 hh =>
    split
    · exact endJob_orderly s (by simp [Walker.readAwaited, hh, JobStage.readIssued])
    · exact .refl _ s
  all_goals exact .refl _ s

theorem halfFaulted_orderly (st : StreamId) (disowned : Bool) : Orderly .nothing s (halfFaulted st disowned s) := by
  unfold halfFaulted
  dsimp only
  refine (halfEnded_orderly s).trans ?_
  generalize halfEnded s = x
  split
  · split
    · exact .refl _ x
    · exact pend_orderly x st
    · exact ((streamFault_orderly x st _).trans (abandonFrame_orderly ..)).trans (endAwait_orderly ..)
  · exact .refl _ x

theorem attend_orderly (st : StreamId) (hr : s.dc.device = .running) : Orderly .nothing s (attend st s) :=
  { jobs := attendQueue_nodup st, jobsStay := fun h => absurd hr h }

/-- Attention requests for several streams, as a sweep makes them in RUNNING. -/
theorem foldl_attend_orderly (l : List StreamId) (hr : s.dc.device = .running) :
    Orderly .nothing s (l.foldl (fun s st => attend st s) s) := by
  induction l generalizing s with
  | nil => exact .refl _ s
  | cons st l ih => exact (attend_orderly s st hr).trans (ih (attend st s) hr)

theorem sweep_orderly : Orderly .nothing s (sweep s) := by
  unfold sweep
  split
  case h_1 =>
    split
    · next h => exact Orderly.trans {} (foldl_attend_orderly _ _ h.1)
    · exact .refl _ s
  all_goals exact .refl _ s

theorem attendWrite_orderly (v : Word) : Orderly .nothing s (attendWrite v s) := by
  unfold attendWrite
  split
  · next hr =>
    split
    · exact (attend_orderly s _ hr).trans {}
    · exact {}
  · exact {}

end

end Sys2Proof.Machine

/-! PROOFS. What an orderly operation leaves alone while the part is calm, that is outside RUNNING, with no frame held
and, in QUIESCING, no job in hand: the Report Writer's queue and the pending set (R147, R180, R181). -/

namespace Sys2Proof.Machine

/-- Outside RUNNING, no Lane Writer holds a frame, and in QUIESCING no job is in hand. -/
structure Calm (s : State) : Prop where
  notRunning : s.dc.device ≠ .running
  idle : ∀ k, s.lw k = .idle
  noJob : s.working → s.walker.inHand = none

/-- The Report Writer's queue and the pending set are the same. -/
structure Still (s t : State) : Prop where
  queue : t.rw.queue = s.rw.queue
  pendingSet : t.rw.pendingSet = s.rw.pendingSet

theorem Still.of_rw {s t : State} (h : t.rw = s.rw) : Still s t := ⟨by rw [h], by rw [h]⟩

/-! ### Symbols -/

section
variable {k : Lane} {s : State} (hi : s.lw k = .idle)
include hi

theorem loseIfOffered_idle (a : AcceptedFrame) (why : LossReason) : loseIfOffered k a why s = s := by
  unfold loseIfOffered
  split
  · exact reportLoss_noFrame why (.inl hi)
  all_goals rfl

theorem loseOpen_idle (f : Option OpenFrame) (why : LossReason) : loseOpen k f why s = s := by
  unfold loseOpen
  split
  case h_1 | h_2 => exact loseIfOffered_idle hi _ why
  all_goals rfl

theorem startSymbol_rw : (startSymbol k s).rw = s.rw := by
  unfold startSymbol
  split
  case h_3 =>
    split
    case h_3 | h_4 => rw [startCuts, loseIfOffered_idle (by simpa using hi)]; rfl
    all_goals rfl
  all_goals rfl

theorem abortSymbol_rw : (abortSymbol k s).rw = s.rw := by
  unfold abortSymbol
  split
  case h_3 =>
    split
    case h_3 | h_4 => rw [abortCuts, loseIfOffered_idle (by simpa using hi)]; rfl
    all_goals rfl
  all_goals rfl

theorem codeViolation_rw : (codeViolation k s).rw = s.rw := by
  unfold codeViolation
  split
  case h_3 =>
    dsimp only
    split <;> rw [loseOpen_idle (by simpa using hi)] <;> rfl
  all_goals rfl

theorem frameChecks_rw (a : AcceptedFrame) (failed : Bool) : (frameChecks k a failed s).rw = s.rw := by
  unfold frameChecks
  dsimp only
  generalize hx : onLr k _ s = x
  have hl : x.lw k = .idle := hx ▸ hi
  have hrw : x.rw = s.rw := hx ▸ rfl
  split
  case h_3 =>
    split
    · rwa [reportLoss_noFrame _ (.inl hl)]
    · rwa [reportEnd_noFrame _ (.inl hl)]
  all_goals exact hrw

theorem endSymbol_rw : (endSymbol k s).rw = s.rw := by
  unfold endSymbol
  split
  case h_3 =>
    split
    case h_4 => exact frameChecks_rw hi _ _
    all_goals rfl
  all_goals rfl

theorem stageByte_rw (a : AcceptedFrame) (b : Byte) : (stageByte k a b s).rw = s.rw := by
  unfold stageByte
  dsimp only
  split
  · split
    · simp [markTruncated, hi]
    · rfl
  · rw [reportLoss_noFrame _ (.inl (by simpa using hi))]; rfl

theorem payloadByte_rw (a : AcceptedFrame) (b : Byte) : (payloadByte k a b s).rw = s.rw := by
  unfold payloadByte
  dsimp only
  split
  case h_3 =>
    split
    · rw [stageByte_rw (by simpa using hi)]; rfl
    · rfl
  all_goals rfl

omit hi in
theorem headerByte_rw (hr : s.dc.device ≠ .running) (bytes : List Byte) (crc : Half) (b : Byte) :
    (headerByte k bytes crc b s).rw = s.rw := by
  unfold headerByte
  dsimp only
  split
  · rfl
  · split
    · split
      · unfold acceptHeader
        rw [if_neg hr]
        rfl
      · rfl
    · rfl

theorem dataByte_rw (hr : s.dc.device ≠ .running) (b : Byte) : (dataByte k b s).rw = s.rw := by
  unfold dataByte
  split
  case h_3 =>
    split
    case h_2 => exact headerByte_rw hr _ _ _
    case h_3 => exact payloadByte_rw hi _ _
    case h_5 => exact frameChecks_rw hi _ _
    all_goals rfl
  all_goals rfl

end

theorem idleSymbol_rw (k : Lane) (s : State) : (idleSymbol k s).rw = s.rw := by
  unfold idleSymbol; split <;> rfl

section
variable {s : State} (hr : s.dc.device ≠ .running)
include hr

theorem takeEdge_notRunning (k : Lane) (e : Edge) : takeEdge k e s = s := if_neg hr

theorem sampleLine_rw (k : Lane) : (sampleLine k s).rw = s.rw := by
  unfold sampleLine
  dsimp only
  split
  · rfl
  · split
    · rfl
    · split
      · rfl
      · exact (congrArg State.rw (takeEdge_notRunning (s := s.setLr k _) hr k _)).trans rfl

theorem foldl_sampleLine_rw (l : List Lane) : (l.foldl (fun s k => sampleLine k s) s).rw = s.rw := by
  induction l generalizing s with
  | nil => rfl
  | cons k l ih => exact (ih (by rwa [sampleLine_dc])).trans (sampleLine_rw hr k)

theorem tick_rw : (tick s).rw = s.rw := by
  unfold tick
  split
  · rfl
  · dsimp only
    exact foldl_sampleLine_rw hr allLanes

theorem expireArm_notRunning (st : StreamId) : expireArm st s = s := by
  unfold expireArm
  split
  · exact if_neg fun h => hr h.1
  all_goals rfl

theorem takeJob_notRunning (kind : JobKind) (work : Job → State → State) : takeJob kind work s = s := by
  unfold takeJob
  split
  · rfl
  · exact if_neg fun h => hr h.1

end

/-! ### Jobs and requests -/

section
variable (s : State)

theorem sweep_rw : (sweep s).rw = s.rw := by
  have hfold : ∀ (l : List StreamId) (x : State), (l.foldl (fun s st => attend st s) x).rw = x.rw := fun l => by
    induction l with
    | nil => exact fun _ => rfl
    | cons st l ih => exact fun x => ih (attend st x)
  unfold sweep
  split
  · split
    · exact hfold ..
    · rfl
  all_goals rfl

theorem attendWrite_rw (v : Word) : (attendWrite v s).rw = s.rw := by
  unfold attendWrite; split
  · split <;> rfl
  · rfl

theorem issueOrderRead_rw : (issueOrderRead s).rw = s.rw := by
  unfold issueOrderRead
  split
  · split
    · split <;> rfl
    · rfl
  all_goals rfl

theorem halfEnded_rw : (halfEnded s).rw = s.rw := by
  unfold halfEnded; split <;> rfl

theorem halfEnded_lw (k : Lane) : (halfEnded s).lw k = s.lw k := by
  unfold halfEnded; split <;> rfl

variable {s} (hc : Calm s)
include hc

theorem takeRequest_calm (st : StreamId) (number : Byte) (act : State → State) :
    takeRequest st number act s = s := by
  refine if_neg fun ⟨hw, ho, _⟩ => ?_
  simp [requestOpen, anchorInHand, hc.noJob hw, hc.notRunning] at ho

theorem anchorReadOk_rw (data : Read16) : (anchorReadOk data s).rw = s.rw := by
  unfold anchorReadOk
  split
  · rfl
  · next st hst =>
    split
    · next hw => simp [anchorReader, hc.noJob hw] at hst
    · rfl

theorem orderReadOk_rw (data : Read128) : (orderReadOk data s).rw = s.rw := by
  unfold orderReadOk
  split
  · rfl
  · next hst =>
    split
    · next hw => simp [orderReader, hc.noJob hw] at hst
    · rfl

theorem linkReadOk_rw (data : Read16) : (linkReadOk data s).rw = s.rw := by
  unfold linkReadOk
  split
  · rfl
  · next hst =>
    split
    · next hw => simp [linkReader, hc.noJob hw] at hst
    · rfl

theorem orderReadFaulted_rw : (orderReadFaulted s).rw = s.rw := by
  unfold orderReadFaulted
  split
  · rfl
  · next hst =>
    split
    · next hw => simp [orderReader, hc.noJob hw.1] at hst
    · rfl

theorem linkReadFaulted_rw : (linkReadFaulted s).rw = s.rw := by
  unfold linkReadFaulted
  split
  · rfl
  · next hst =>
    split
    · next hw => simp [linkReader, hc.noJob hw.1] at hst
    · rfl

/-! ### Frames -/

theorem dropAnswered_calm (k : Lane) : dropAnswered k s = s := by simp [dropAnswered, hc.idle k]

theorem frameTxnFault_calm (k : Lane) (code : FaultCode) : frameTxnFault k code s = s := by
  unfold frameTxnFault
  simp [hc.idle k, dropAnswered_calm hc]

theorem slotReadOk_calm (k : Lane) (data : Read16) : slotReadOk k data s = s := by
  simp [slotReadOk, hc.idle k]

theorem dataWriteOk_calm (k : Lane) : dataWriteOk k s = s := by simp [dataWriteOk, hc.idle k]

theorem metadataOk_calm (k : Lane) : metadataOk k s = s := by simp [metadataOk, hc.idle k]

theorem fillOk_calm (k : Lane) : fillOk k s = s := by simp [fillOk, hc.idle k]

omit hc in
theorem halfFaulted_rw (hw : ¬ s.working) (st : StreamId) (disowned : Bool) :
    (halfFaulted st disowned s).rw = s.rw := by
  unfold halfFaulted
  dsimp only
  rw [if_neg (by simp only [State.working, halfEnded_dc]; exact fun h => hw h.1), halfEnded_rw]

end

end Sys2Proof.Machine

/-! PROOFS. What a step can do, said once: an orderly operation, one of the few commands that are more than that, or
the answer to a transaction. Each law that every step keeps is then proved case by case. -/

namespace Sys2Proof.Machine

/-! ### The kinds of step -/

/-- Who awaits a transaction: its lane's frame, the job in hand, or neither. -/
def Txn.ack : Txn → Ack
  | .slotRead k _ => .ofLane k
  | .dataWrite k _ _ => .ofLane k
  | .metadataWrite k _ _ => .ofLane k
  | .fillWrite k _ _ => .ofLane k
  | .anchorRead _ | .orderRead _ | .linkRead _ => .ofJob
  | .headerRead _ | .deviceHalfWrite _ _ _ _ | .streamStatusWrite _ _ | .laneStatusWrite _ _
  | .summaryWrite _ _ => .nothing

/-- What becomes of the state, the transaction `x` just out of the table, when its client is told of its end. -/
inductive Handed (x : Txn) (s : State) : State → Prop
  | orderly {t : State} (h : Orderly x.ack s t)
    (hc : Calm s → (s.working → x.isDeviceHalf = false) → Still s t) : Handed x s t
  | streamStatus (hx : x.isStreamStatus = true) : Handed x s (streamStatusOk s)
  | laneStatus (hx : x.isLaneStatus = true) : Handed x s (laneStatusOk s)
  | summary (hx : x.isSummary = true) : Handed x s (summaryOk s)
  | header (hx : x.isHeaderRead = true) (data : Read128) : Handed x s (headerReadOk data s)
  | headerFault (hx : x.isHeaderRead = true) : Handed x s (failLoad causeBoardRead s)
  | broken {t : State} (bit : BitVec 4) (h : Orderly x.ack s t) (hw : s.working) :
    Handed x s (enterBroken (raiseCause bit t))

/-- What a command can do. -/
inductive Move (s : State) : State → Prop
  | orderly {t : State} (h : Orderly .nothing s t) (hc : Calm s → Still s t) : Move s t
  | boardLo (v : Word) : Move s (boardLoWrite v s)
  | boardHi (v : Word) : Move s (boardHiWrite v s)
  | enable : Move s (controlEnable s)
  | quiesce : Move s (controlQuiesce s)
  | reset : Move s (controlReset s)
  | powerOn : Move s (powerOnReset s)
  | resetComplete : Move s (resetComplete s)
  | grant : Move s (grantOne s)
  | refresh : Move s (refreshExpired s)
  | publish : Move s (beginPublication s)
  | quiescePoint : Move s (quiescePoint s)
  | drainRefresh : Move s (drainRefresh s)
  | closing : Move s (closingPublication s)
  | answered {c : Client} {d : Direction} {e : Entry} {t u : State} (ho : oldest c d s = some e)
    (h : Orderly .nothing (removeOldest c d s) t) (hrw : t.rw = s.rw) (hu : Handed e.txn t u) : Move s u

section
variable {s t : State}

theorem Move.of_rw (h : Orderly .nothing s t) (hrw : t.rw = s.rw) : Move s t := .orderly h fun _ => .of_rw hrw

theorem Handed.of_rw {x : Txn} (h : Orderly x.ack s t) (hrw : t.rw = s.rw) : Handed x s t :=
  .orderly h fun _ _ => .of_rw hrw

theorem Handed.of_calm {x : Txn} (h : Orderly x.ack s t) (hc : Calm s → t.rw = s.rw) : Handed x s t :=
  .orderly h fun hs _ => .of_rw (hc hs)

theorem Move.same : Move s s := .of_rw (.refl _ s) rfl

theorem Move.of_takeJob {kind : JobKind} {work : Job → State → State}
    (hw : ∀ j x, x.walker.readAwaited = 0 → Orderly .nothing x (work j x)) : Move s (takeJob kind work s) :=
  .orderly (takeJob_orderly s kind hw) fun hc => .of_rw (congrArg State.rw (takeJob_notRunning hc.notRunning _ _))

theorem Move.of_takeRequest {st : StreamId} {number : Byte} {act : State → State}
    (h : Orderly .nothing s (act s)) : Move s (takeRequest st number act s) :=
  .orderly (takeRequest_orderly s st number h) fun hc => .of_rw (congrArg State.rw (takeRequest_calm hc st number act))

theorem Move.of_live {f : State → State} (h : live f s = .next t) (hf : Move s (f s)) : Move s t := by
  unfold live at h
  split at h
  · exact Host.Outcome.next.inj h ▸ .same
  · exact Host.Outcome.next.inj h ▸ hf

theorem setExpired_orderly (c : Client) (d : Direction) (v : Byte) : Orderly .nothing s (s.setExpired c d v) := by
  cases d <;> exact {}

theorem setExpired_rw (c : Client) (d : Direction) (v : Byte) : (s.setExpired c d v).rw = s.rw := by
  cases d <;> rfl

theorem raiseExpired_rw (c : Client) (d : Direction) : (raiseExpired c d s).rw = s.rw := by
  unfold raiseExpired
  split
  · exact setExpired_rw ..
  · exact setExpired_rw (s := s) c d _

theorem raiseExpired_orderly (c : Client) (d : Direction) : Orderly .nothing s (raiseExpired c d s) := by
  unfold raiseExpired
  split
  · exact setExpired_orderly ..
  · exact (setExpired_orderly c d _).trans {}

theorem isOf_iff {c : Client} {d : Direction} {e : Entry} :
    e.isOf c d = true ↔ e.txn.client = c ∧ e.txn.direction = d := by simp [Entry.isOf]

theorem laneClient_injective {j k : Lane} (h : laneClient j = laneClient k) : j = k :=
  Fin.ext (congrArg (·.val) h)

/-- What a response can do: nothing but to lower an expired count, or end the oldest transaction of its client. -/
theorem Move.of_respondAt {c : Client} {d : Direction} {isKind : Txn → Bool} {act : Txn → State → State}
    (hact : ∀ x s, x.client = c → isKind x = true → Handed x s (act x s)) :
    Move s (respond c d isKind act s) := by
  unfold respond
  split
  · exact .of_rw (setExpired_orderly ..) (setExpired_rw ..)
  · split
    · exact .same
    · next e ho =>
      have hc : e.txn.client = c := (isOf_iff.mp (List.find?_some ho)).1
      split
      · next hk => exact .answered ho (.refl _ _) rfl (hact _ _ hc hk)
      · exact .same

theorem Move.of_respond {c : Client} {d : Direction} {isKind : Txn → Bool} {act : Txn → State → State}
    (hact : ∀ x s, isKind x = true → Handed x s (act x s)) : Move s (respond c d isKind act s) :=
  .of_respondAt fun x s _ => hact x s

end

/-- A Board fault breaks a working part, and does nothing to another. -/
theorem Handed.boardFault {x : Txn} {s t : State} (bit : BitVec 4) (h : Orderly x.ack s t) (hrw : t.rw = s.rw) :
    Handed x s (boardFault bit t) := by
  unfold Machine.boardFault
  split
  · next hw => exact .broken bit h (by simpa [State.working, h.device] using hw)
  · exact .of_rw h hrw

/-- What a port fault does where it is taken (R132). -/
theorem portFault_handed (x : Txn) (s : State) : Handed x s (portFault x s) := by
  cases x with
  | slotRead k _ | dataWrite k _ _ | metadataWrite k _ _ | fillWrite k _ _ =>
    exact .of_calm (frameTxnFault_orderly k s _) fun hc => congrArg State.rw (frameTxnFault_calm hc k _)
  | anchorRead a =>
    unfold portFault anchorReadFaulted
    dsimp only
    split
    · exact .of_rw (.refl _ s) rfl
    · exact .boardFault _ (endJob_orderly_ofJob s) rfl
  | orderRead a => exact .of_calm (orderReadFaulted_orderly s) fun hc => orderReadFaulted_rw hc
  | linkRead a => exact .of_calm (linkReadFaulted_orderly s) fun hc => linkReadFaulted_rw hc
  | headerRead a => exact .headerFault rfl
  | deviceHalfWrite st d a h =>
    exact .orderly (halfFaulted_orderly s st d) fun _ hw => .of_rw (halfFaulted_rw (fun h => nomatch hw h) st d)
  | streamStatusWrite _ _ | laneStatusWrite _ _ | summaryWrite _ _ => exact .boardFault _ (.refl _ s) rfl

theorem timeOut_move (c : Client) (d : Direction) (s : State) : Move s (timeOut c d s) := by
  unfold timeOut
  split
  · exact .same
  · next e ho =>
    split
    · exact .answered ho (raiseExpired_orderly c d) (raiseExpired_rw c d) (portFault_handed _ _)
    · exact .same

theorem controlWrite_move (v : Word) (s : State) : Move s (controlWrite v s) := by
  unfold controlWrite
  split_ifs
  · exact .same
  · exact .enable
  · exact .quiesce
  · exact .reset
  all_goals exact .of_rw {} rfl

theorem portWrite_move (offset : BitVec 5) (enables : BitVec 4) (v : Word) (s : State) :
    Move s (portWrite offset enables v s) := by
  unfold portWrite
  split
  · exact .same
  · split
    case h_1 => exact controlWrite_move v s
    case h_2 => exact .boardLo v
    case h_3 => exact .boardHi v
    case h_4 => exact .of_rw (attendWrite_orderly s v) (attendWrite_rw s v)
    all_goals exact .of_rw {} rfl

/-- Every command is one of the kinds of step. -/
theorem exec_move {c : Instr} {s t : State} (h : exec c s = .next t) : Move s t := by
  cases c with
  | enable => exact .of_live h .enable
  | quiesce => exact .of_live h .quiesce
  | reset => exact .of_live h .reset
  | irqOn | irqOff | seenWrite _ | causeWrite _ => exact .of_live h (.of_rw {} rfl)
  | issueAccepted =>
    exact .of_live (f := fun s => { s with port := { s.port with issuePoint := none } }) h (.of_rw {} rfl)
  | noCommand => exact .of_live (f := id) h .same
  | unknownCommand v => exact .of_live h (controlWrite_move v s)
  | boardLoWrite v => exact .of_live h (.boardLo v)
  | boardHiWrite v => exact .of_live h (.boardHi v)
  | attendWrite v => exact .of_live h (.of_rw (attendWrite_orderly s v) (attendWrite_rw s v))
  | registerWriteOther o e v => exact .of_live h (portWrite_move o e v s)
  | powerOnReset => exact Host.Outcome.next.inj h ▸ .powerOn
  | resetInputReleased => exact Host.Outcome.next.inj h ▸ .of_rw {} rfl
  | idleSymbol k => exact .of_live h (.of_rw (idleSymbol_orderly k s) (idleSymbol_rw k s))
  | startSymbol k => exact .of_live h (.orderly (startSymbol_orderly k s) fun hc => .of_rw (startSymbol_rw (hc.idle k)))
  | endSymbol k => exact .of_live h (.orderly (endSymbol_orderly k s) fun hc => .of_rw (endSymbol_rw (hc.idle k)))
  | abortSymbol k => exact .of_live h (.orderly (abortSymbol_orderly k s) fun hc => .of_rw (abortSymbol_rw (hc.idle k)))
  | dataByte k b => exact .of_live h (.orderly (dataByte_orderly k s b) fun hc => .of_rw
      (dataByte_rw (hc.idle k) hc.notRunning b))
  | codeViolation k => exact .of_live h (.orderly (codeViolation_orderly k s) fun hc => .of_rw (codeViolation_rw (hc.idle k)))
  | triggerEdge k e =>
    have hm := moveLine_orderly k s (edgeLevel e)
    change live (sampleLine k) (moveLine k (edgeLevel e) s) = .next t at h
    unfold live at h
    split at h
    · exact Host.Outcome.next.inj h ▸ .of_rw hm rfl
    · exact Host.Outcome.next.inj h ▸ .orderly (hm.trans (sampleLine_orderly ..)) fun hc =>
      .of_rw (sampleLine_rw (s := moveLine k _ s) hc.notRunning k)
  | armDeadlineExpiry st => exact .of_live h (.orderly (expireArm_orderly s st) fun hc => .of_rw
      (congrArg State.rw (expireArm_notRunning hc.notRunning st)))
  | sweepExpiry => exact .of_live h (.of_rw (sweep_orderly s) (sweep_rw s))
  | laneRefreshExpiry => exact .of_live h .refresh
  | responseTimeout c d => exact .of_live h (timeOut_move c d s)
  | grant => exact .of_live h .grant
  | lateResponse c d =>
    refine .of_live (f := fun s => if s.expired c d ≠ 0 then discardLate c d s else s) h ?_
    split
    · exact .of_rw (setExpired_orderly ..) (setExpired_rw ..)
    · exact .same
  | anchorJob => exact .of_live h (.of_takeJob fun _ x _ => .refl _ x)
  | fetchJob => exact .of_live h (.of_takeJob fun j x => workFetch_orderly x j)
  | linkJob => exact .of_live h (.of_takeJob fun j x => workLink_orderly x j)
  | orderReadIssue => exact .of_live h (.of_rw (issueOrderRead_orderly s) (issueOrderRead_rw s))
  | start st n k g w r a => exact .of_live h (.of_takeRequest (actStart_orderly ..))
  | halt st n => exact .of_live h (.of_takeRequest (actHalt_orderly ..))
  | resume st n => exact .of_live h (.of_takeRequest (actResume_orderly ..))
  | forget st n => exact .of_live h (.of_takeRequest (actForget_orderly ..))
  | anchorReadDone d =>
    refine .of_live h (.of_respond fun x s hx => ?_)
    cases x with
    | anchorRead a => exact .of_calm (anchorReadOk_orderly s d) fun hc => anchorReadOk_rw hc d
    | _ => exact nomatch hx
  | orderReadDone d =>
    refine .of_live h (.of_respond fun x s hx => ?_)
    cases x with
    | orderRead a => exact .of_calm (orderReadOk_orderly s d) fun hc => orderReadOk_rw hc d
    | _ => exact nomatch hx
  | linkReadDone d =>
    refine .of_live h (.of_respond fun x s hx => ?_)
    cases x with
    | linkRead a => exact .of_calm (linkReadOk_orderly s d) fun hc => linkReadOk_rw hc d
    | _ => exact nomatch hx
  | boardHeaderReadDone d =>
    refine .of_live h (.of_respond fun x s hx => ?_)
    cases x with
    | headerRead a => exact .header rfl d
    | _ => exact nomatch hx
  | slotReadDone k d =>
    refine .of_live h (.of_respondAt fun x s hc hx => ?_)
    cases x with
    | slotRead j a =>
      obtain rfl := laneClient_injective hc
      exact .of_calm (slotReadOk_orderly j s d) fun hc => congrArg State.rw (slotReadOk_calm hc j d)
    | _ => exact nomatch hx
  | dataWriteDone k =>
    refine .of_live h (.of_respondAt fun x s hc hx => ?_)
    cases x with
    | dataWrite j a b =>
      obtain rfl := laneClient_injective hc
      exact .of_calm (dataWriteOk_orderly j s) fun hc => congrArg State.rw (dataWriteOk_calm hc j)
    | _ => exact nomatch hx
  | metadataWriteDone =>
    refine .of_live h (.of_respond fun x s hx => ?_)
    cases x with
    | metadataWrite k a m => exact .of_calm (metadataOk_orderly k s) fun hc => congrArg State.rw (metadataOk_calm hc k)
    | _ => exact nomatch hx
  | fillWriteDone =>
    refine .of_live h (.of_respond fun x s hx => ?_)
    cases x with
    | fillWrite k a v => exact .of_calm (fillOk_orderly k s) fun hc => congrArg State.rw (fillOk_calm hc k)
    | _ => exact nomatch hx
  | deviceHalfWriteDone =>
    refine .of_live h (.of_respond fun x s hx => ?_)
    cases x with
    | deviceHalfWrite st d a v => exact .of_rw (halfEnded_orderly s) (halfEnded_rw s)
    | _ => exact nomatch hx
  | publicationBegin => exact .of_live h .publish
  | streamStatusWriteDone =>
    refine .of_live h (.of_respond fun x s hx => ?_)
    cases x with
    | streamStatusWrite a r => exact .streamStatus rfl
    | _ => exact nomatch hx
  | summaryWriteDone =>
    refine .of_live h (.of_respond fun x s hx => ?_)
    cases x with
    | summaryWrite a r => exact .summary rfl
    | _ => exact nomatch hx
  | laneStatusWriteDone =>
    refine .of_live h (.of_respond fun x s hx => ?_)
    cases x with
    | laneStatusWrite a r => exact .laneStatus rfl
    | _ => exact nomatch hx
  | slotReadFault | dataWriteFault | commitWriteFault | deviceHalfWriteFault | orderReadFault | linkReadFault
  | anchorReadFault | boardHeaderReadFault | boardWriteFault =>
    exact .of_live h (.of_respond fun x s _ => portFault_handed x s)
  | quiescePoint => exact .of_live h .quiescePoint
  | drainLaneRefresh => exact .of_live h .drainRefresh
  | closingPublication => exact .of_live h .closing
  | resetComplete => exact .of_live h .resetComplete

/-- A step is a move, but for the queue of commands. -/
theorem step_move {s t : State} (h : step s = .next t) : ∃ q, Move { s with pending := q } t := by
  unfold step at h
  split at h
  · exact ⟨s.pending, Host.Outcome.next.inj h ▸ .orderly (tick_orderly s) fun hc => .of_rw (tick_rw hc.notRunning)⟩
  · exact ⟨_, exec_move h⟩

/-- A law that does not read the queue of commands and that every move keeps, every step keeps. -/
theorem law_of_moves {L : State → Prop} (hp : ∀ s q, L s → L { s with pending := q })
    (hm : ∀ s t, L s → Move s t → L t) {s t : State} (hs : L s) (h : step s = .next t) : L t := by
  obtain ⟨q, hq⟩ := step_move h
  exact hm _ t (hp s q hs) hq

end Sys2Proof.Machine

/-! PROOFS. The laws of the port, the receivers, the bindings and the queues (R3, R30, R96 to R98, R107, R120, R123):
every move is made of parts, of which each keeps them. -/

namespace Sys2Proof.Machine

/-! ### The parts of a move -/

/-- What moves are made of: orderly operations; changes of Device Control, of the Report Writer and of the walker;
a transaction that leaves the table or, below the limit, joins it; the lanes' frames abandoned; the receivers
configured; every block reset. -/
inductive Parts : State → State → Prop
  | orderly {a : Ack} {s t : State} (h : Orderly a s t) : Parts s t
  | control (s : State) (c : Control) : Parts s { s with dc := c }
  | reporter {s : State} (r : Reporter) (h : ∀ x ∈ r.queue, x ∈ s.rw.queue ∨ x.client = reporterClient) :
    Parts s { s with rw := r }
  | walker (s : State) (w : Walker) (h : (w.queue.map Job.stream).Nodup) : Parts s { s with walker := w }
  | ended (c : Client) (d : Direction) (s : State) : Parts s (removeOldest c d s)
  | joined {s : State} {p : MemoryPort} {e : Entry} (he : p.table = s.port.table ++ [e])
    (hl : outstanding e.txn.direction s < outstandingLimit e.txn.direction) : Parts s { s with port := p }
  | abandoned (s : State) : Parts s (abandonLanes s)
  | configured (s : State) (f : Lane → Bool) :
    Parts s { s with receivers := Vector.ofFn fun k => (s.lr k).configure (f k) }
  | cleared (s : State) : Parts s (resetBlocks s)
  | trans {s t u : State} (h : Parts s t) (h' : Parts t u) : Parts s u

section
variable (s : State)

theorem Parts.same : Parts s s := .orderly (.refl .nothing s)

theorem Parts.of_eq {t : State} (h : t = s) : Parts s t := h ▸ .same s

/-- Transactions of the Report Writer's own join its queue, and the rest of it changes. -/
theorem Parts.made (r : Reporter) {made : List Txn} (hq : r.queue = s.rw.queue ++ made)
    (hm : ∀ x ∈ made, x.client = reporterClient) : Parts s { s with rw := r } :=
  .reporter r fun x hx => (List.mem_append.mp (hq ▸ hx)).imp_right (hm x)

/-- The Report Writer changes, but for its queue. -/
theorem Parts.kept (r : Reporter) (hq : r.queue = s.rw.queue) : Parts s { s with rw := r } :=
  .reporter r fun _ hx => .inl (hq ▸ hx)

theorem Parts.keptThen {r : Reporter} {u : State} (h : Parts { s with rw := r } u) (hq : r.queue = s.rw.queue) :
    Parts s u := .trans (.kept s r hq) h

theorem Parts.emptied (r : Reporter) (hq : r.queue = []) : Parts s { s with rw := r } :=
  .reporter r fun x hx => absurd (hq ▸ hx) (List.not_mem_nil (a := x))

theorem client_laneStatusWrite {x : Txn} (h : x ∈ allLanes.map (laneStatusWrite s)) : x.client = reporterClient := by
  obtain ⟨k, _, rfl⟩ := List.mem_map.mp h; rfl

theorem Parts.laneRefresh : Parts s (beginLaneRefresh s) :=
  .made s _ (made := allLanes.map (laneStatusWrite s)) rfl fun _ => client_laneStatusWrite s

theorem Parts.makeSummary (number : Word) (device : SummaryState) : Parts s (makeSummary number device s) :=
  .made s _ rfl fun x hx => by rw [List.mem_singleton.mp hx]; exact rfl

theorem refreshExpired_parts : Parts s (refreshExpired s) := by
  unfold refreshExpired
  split
  case h_1 =>
    split
    · dsimp only
      split
      · exact .keptThen s (.laneRefresh _) rfl
      · exact .kept s _ rfl
    · exact .same s
  all_goals exact .same s

theorem beginPublication_parts : Parts s (beginPublication s) := by
  unfold beginPublication
  dsimp only
  split
  · refine .made s _ rfl fun x hx => ?_
    obtain ⟨st, _, rfl⟩ := List.mem_map.mp hx
    rfl
  · exact .same s

theorem quiescePoint_parts : Parts s (quiescePoint s) := by
  unfold quiescePoint
  split
  · exact .kept s _ rfl
  · exact .same s

theorem drainRefresh_parts : Parts s (drainRefresh s) := by
  unfold drainRefresh
  split
  · exact .keptThen s (.laneRefresh _) rfl
  · exact .same s

theorem closingPublication_parts : Parts s (closingPublication s) := by
  unfold closingPublication
  split
  · exact .keptThen s (.makeSummary _ _ _) rfl
  · exact .same s

theorem initialSummary_parts : Parts s (initialSummary s) := by
  unfold initialSummary
  split
  · exact .keptThen s (.makeSummary _ _ _) rfl
  · exact .same s

theorem streamStatusOk_parts : Parts s (streamStatusOk s) := by
  unfold streamStatusOk
  split
  · split
    · exact .keptThen s (initialSummary_parts _) rfl
    · split
      · split
        · exact .keptThen s (.makeSummary _ _ _) rfl
        · exact .kept s _ rfl
      all_goals exact .same s
  · exact .same s

theorem laneStatusOk_parts : Parts s (laneStatusOk s) := by
  unfold laneStatusOk
  split
  · exact .keptThen s (initialSummary_parts _) rfl
  · exact .same s

theorem notifyPublished_orderly (e : StreamId × Option Addr) : Orderly .nothing s (notifyPublished e s) := by
  unfold notifyPublished
  split
  · next a b _ _ _ hs =>
    split
    · dsimp only
      have h1 := setStanding_orderly s (st := e.1) (x := .bound b (.fetching (.link a true))) (by rw [hs]; rfl)
      split
      · exact h1
      · exact h1.trans (askJob_orderly ..)
    · exact .refl _ s
  · exact .refl _ s

theorem completePublication_parts (p : Publication) : Parts s (completePublication p s) := by
  unfold completePublication
  dsimp only
  refine .trans (.kept s { s.rw with reportNumber := s.rw.reportNumber + 1, publication := none } rfl) ?_
  have h1 := Orderly.foldl notifyPublished_orderly p.batch
    { s with rw := { s.rw with reportNumber := s.rw.reportNumber + 1, publication := none } }
  refine .trans (.orderly h1) ?_
  generalize p.batch.foldl _ _ = x
  split
  · exact .trans (.kept x { x.rw with drain := .notBegun } rfl) (.control _ _)
  · exact .same x

theorem summaryOk_parts : Parts s (summaryOk s) := by
  unfold summaryOk
  split
  · split
    · exact .kept s _ rfl
    · split
      · exact completePublication_parts s _
      · exact .same s
  · exact .same s

/-! ### Entry to RUNNING -/

theorem startRunning_parts (n : Snapshot) : Parts s (startRunning n s) := by
  have hj : (anchorJobs.map Job.stream).Nodup := by
    simpa [anchorJobs, allStreams, Function.comp_def] using List.nodup_finRange 24
  refine .trans (.configured s fun k => n.lanes[k.val].enabled) (.trans (.control _
    { s.dc with device := .running, snapshot := some n }) (.trans (.walker _
    { queue := anchorJobs, inHand := none, sweepDue := sweepFrom n s.now } hj) (.trans (.kept _
    { s.rw with refreshDue := some (refreshFrom n s.now), drain := .notBegun } rfl) ?_)))
  exact .orderly (a := .nothing) {}

theorem laneDisabledFault_orderly (st : StreamId) (b : Binding) :
    Orderly .nothing s (laneDisabledFault st b s) := by
  unfold laneDisabledFault
  dsimp only
  split
  · exact streamFault_orderly ..
  · next o ho =>
    split
    · refine (streamFault_orderly s st _).trans (handHalf_orderly _ _ _ fun hp => ?_)
      have hp' : s.pendsAllowed := by simpa [State.pendsAllowed] using hp
      obtain ⟨b, p, hs⟩ := standing_of_order s st ho
      unfold streamFault
      split
      · next h => simp [h] at hs
      · exact isPending_pend_self s hp'
      · exact isPending_pend_self _ hp'
    · exact streamFault_orderly ..

theorem deadlineRetest_orderly (st : StreamId) (due : Option Time) :
    Orderly .nothing s (deadlineRetest st due s) := by
  unfold deadlineRetest
  split
  · exact .refl _ s
  · split
    · exact retire_orderly ..
    · exact .refl _ s

theorem windowRetest_orderly (st : StreamId) (b : Binding) (o : CurrentOrder) {t : State}
    (ht : Orderly .nothing s t) : Orderly .nothing s ((windowRetest st b o s).getD t) := by
  unfold windowRetest
  dsimp only
  split
  · cases o.params.outside (s.window b.window) with
    | none => exact ht
    | some r => exact retire_orderly ..
  · exact enter_orderly ..

theorem entryTest_orderly (st : StreamId) : Orderly .nothing s (entryTest st s) := by
  unfold entryTest
  split
  · exact .refl _ s
  · split
    · exact laneDisabledFault_orderly ..
    · split
      case h_1 => exact windowRetest_orderly s _ _ _ (deadlineRetest_orderly ..)
      case h_2 => exact windowRetest_orderly s _ _ _ (.refl _ s)
      all_goals exact .refl _ s

theorem beginInitialPublication_parts : Parts s (beginInitialPublication s) := by
  unfold beginInitialPublication
  refine .trans (.trans (.kept s _ rfl) (.made _ _ (made := allStreams.map (initialStatusWrite s)) rfl
    fun x hx => ?_)) (.laneRefresh _)
  obtain ⟨st, _, rfl⟩ := List.mem_map.mp hx
  rfl

theorem resumeFromQuiet_parts : Parts s (resumeFromQuiet s) := by
  unfold resumeFromQuiet
  dsimp only
  refine .trans (.orderly (.foldl (fun s st => entryTest_orderly s st) allStreams s)) ?_
  generalize allStreams.foldl (fun s st => entryTest st s) s = x
  exact .keptThen x (.laneRefresh _) rfl

theorem failLoad_parts (bit : BitVec 4) : Parts s (failLoad bit s) := by
  unfold failLoad
  split
  · exact .control s _
  all_goals exact .same s

theorem headerReadOk_parts (data : Read128) : Parts s (headerReadOk data s) := by
  unfold headerReadOk
  split
  case h_1 l _ =>
    dsimp only
    split
    · exact .control s _
    · split
      · unfold enterRunning
        split
        · exact .trans (startRunning_parts s _) (beginInitialPublication_parts _)
        · exact .trans (startRunning_parts s _) (resumeFromQuiet_parts _)
      · exact failLoad_parts ..
  all_goals exact .same s

/-! ### Entries to RESETTING, BROKEN and OFF -/

theorem enterBroken_parts : Parts s (enterBroken s) :=
  .trans (.abandoned s) (.trans (.walker _ (abandonLanes s).walker.broken List.nodup_nil)
    (.trans (.emptied _ _ rfl) (.control _ _)))

theorem enterResetting_parts : Parts s (enterResetting s) :=
  .trans (.abandoned s) (.trans (.walker _ Walker.reset List.nodup_nil)
    (.trans (.emptied _ _ rfl) (.control _ _)))

theorem resetComplete_parts : Parts s (resetComplete s) := by
  unfold resetComplete
  split
  · exact .trans (.cleared s) (.trans (.control _ _) (.orderly (a := .nothing) {}))
  · exact .same s

theorem powerOnReset_parts : Parts s (powerOnReset s) := .trans (.cleared s) (.control _ _)

theorem controlReset_parts : Parts s (controlReset s) := by
  unfold controlReset
  split
  · exact .control s _
  · exact .trans (enterResetting_parts s) (.control _ _)

theorem controlQuiesce_parts : Parts s (controlQuiesce s) := by
  unfold controlQuiesce
  split
  · exact .trans (.trans (.control s { s.dc with device := .quiescing, result := .taken })
      (.walker _ { s.walker with queue := [], sweepDue := none } List.nodup_nil)) (.kept _ _ rfl)
  · exact .control s _

/-! ### Issue -/

/-- A grant issues an eligible request, or does nothing. Of the port it changes the arbitration state first. -/
theorem grantOne_cases : grantOne s = s ∨ ∃ c x, ∃ p : MemoryPort, eligible c s = some x ∧ p.table = s.port.table
    ∧ grantOne s = issue x { s with port := p } := by
  unfold grantOne
  split
  · exact .inl rfl
  · split
    · exact .inl rfl
    · next c p ha =>
      split
      · exact .inl rfl
      · next x hx =>
        refine .inr ⟨c, x, p, hx, ?_, rfl⟩
        unfold arbitrate at ha
        split at ha
        · obtain ⟨_, rfl⟩ := Prod.mk.inj (Option.some.inj ha)
          rfl
        · obtain ⟨r, _, hr⟩ := Option.map_eq_some_iff.mp ha
          obtain ⟨_, rfl⟩ := Prod.mk.inj hr
          rfl

theorem readIssued_issue (stage : JobStage) (h : stage.readIssued = true) : stage.issue.readIssued = true := by
  cases stage <;> simp_all [JobStage.readIssued, JobStage.issue]

/-- What the issue of a Lane Writer's or the walker's read or data write does at the client is orderly. -/
theorem clientIssued_orderly {x : Txn} (hx : x.client ≠ reporterClient) (hh : x.isHeaderRead = false) :
    Orderly .nothing s (clientIssued x s) := by
  have read : Orderly .nothing s (s.setInHand (s.walker.inHand.map fun j => { j with stage := j.stage.issue })) := by
    refine setInHand_orderly s (by intro h; rw [h]; rfl) ?_
    cases hj : s.walker.inHand with
    | none => simp [Walker.readAwaited, hj]
    | some j =>
      simp only [Walker.readAwaited, hj, Option.map_some]
      split
      · next hi => simp [readIssued_issue _ hi]
      · exact Nat.zero_le _
  cases x with
  | slotRead k a =>
    unfold clientIssued
    dsimp only
    split
    case h_1 hl => exact setLw_orderly s (.inr (.inl (by simp [hl]))) (by rw [hl]; simp only [Writer.awaited]; split <;> simp)
    all_goals exact .refl _ s
  | dataWrite k a b =>
    unfold clientIssued
    dsimp only
    split
    case h_1 f p hl =>
      refine Orderly.trans (.trans (setLr_orderly s ?_) (setLw_orderly _ (.inr (.inl ?_)) ?_)) (advance_orderly ..)
      · exact { staging := fun h => Staging.fits_take h _ }
      · simp [hl]
      · simp only [setLr_lw, hl, Writer.awaited]; omega
    all_goals exact .refl _ s
  | anchorRead a | orderRead a | linkRead a => exact read
  | headerRead a => simp [Txn.isHeaderRead] at hh
  | _ => exact absurd rfl hx

theorem laneClient_ne_reporterClient (k : Lane) : laneClient k ≠ reporterClient := fun h => by
  have h' : k.val = 13 := congrArg (·.val) h
  omega

theorem walkerClient_ne_reporterClient : walkerClient ≠ reporterClient := by decide

theorem clientIssued_parts (x : Txn) : Parts s (clientIssued x s) := by
  by_cases hc : x.client = reporterClient
  · have htail : Parts s { s with rw := { s.rw with queue := s.rw.queue.tail } } :=
      .reporter _ fun x hx => .inl (List.mem_of_mem_tail hx)
    cases x with
    | slotRead k _ | dataWrite k _ _ => exact absurd hc (laneClient_ne_reporterClient k)
    | anchorRead _ | orderRead _ | linkRead _ | headerRead _ => exact absurd hc walkerClient_ne_reporterClient
    | _ => exact htail
  · cases hh : x.isHeaderRead with
    | false => exact .orderly (clientIssued_orderly s hc hh)
    | true =>
      cases x with
      | headerRead a =>
        unfold clientIssued
        dsimp only
        split
        · exact .control s _
        all_goals exact .same s
      | _ => simp [Txn.isHeaderRead] at hh

theorem eligible_below {c : Client} {x : Txn} (h : eligible c s = some x) :
    outstanding x.direction s < outstandingLimit x.direction := by
  unfold eligible at h
  split at h
  · simp at h
  · split at h
    · next hc => obtain rfl := Option.some.inj h; exact hc.2.1
    · simp at h

theorem grantOne_parts : Parts s (grantOne s) := by
  obtain h | ⟨c, x, p, hx, hp, h⟩ := grantOne_cases s
  · exact .of_eq s h
  · rw [h]
    refine .trans ?_ (clientIssued_parts _ x)
    exact .joined (congrArg (· ++ _) hp) (eligible_below s hx)

end

/-! ### Every move is made of parts -/

theorem Handed.parts {x : Txn} {s t : State} (h : Handed x s t) : Parts s t := by
  cases h with
  | orderly h _ => exact .orderly h
  | streamStatus => exact streamStatusOk_parts s
  | laneStatus => exact laneStatusOk_parts s
  | summary => exact summaryOk_parts s
  | header _ data => exact headerReadOk_parts s data
  | headerFault => exact failLoad_parts s _
  | broken bit h => exact .trans (.orderly h) (.trans (.control _ _) (enterBroken_parts _))

theorem Move.parts {s t : State} (h : Move s t) : Parts s t := by
  cases h with
  | orderly h _ => exact .orderly h
  | boardLo v | boardHi v =>
    simp only [boardLoWrite, boardHiWrite]
    split <;> exact .control s _
  | enable => unfold controlEnable; split <;> exact .control s _
  | quiesce => exact controlQuiesce_parts s
  | reset => exact controlReset_parts s
  | powerOn => exact powerOnReset_parts s
  | resetComplete => exact resetComplete_parts s
  | grant => exact grantOne_parts s
  | refresh => exact refreshExpired_parts s
  | publish => exact beginPublication_parts s
  | quiescePoint => exact quiescePoint_parts s
  | drainRefresh => exact drainRefresh_parts s
  | closing => exact closingPublication_parts s
  | answered _ h _ hu => exact .trans (.ended _ _ s) (.trans (.orderly h) hu.parts)

theorem step_parts {s t : State} (h : step s = .next t) : Parts s t := by
  obtain ⟨q, hq⟩ := step_move h
  exact .trans (.orderly (.setPending s q)) hq.parts

end Sys2Proof.Machine

/-! PROOFS. The laws of O54 to O57, kept by every part of a move, and what holds after reset. -/

namespace Sys2Proof.Machine

/-! ### The port's limits (R123) -/

theorem portLimits_iff (s : State) : PortLimits s ↔ ∀ d, outstanding d s ≤ outstandingLimit d :=
  ⟨fun ⟨hw, hr⟩ d => by cases d <;> assumption, fun h => ⟨h .write, h .read⟩⟩

theorem blind_direction (d : Direction) : Blind fun x => x.direction == d := fun st x => by cases x <;> rfl

theorem Parts.portLimits {s t : State} (h : Parts s t) (hs : PortLimits s) : PortLimits t := by
  induction h with
  | orderly h =>
    rw [portLimits_iff] at hs ⊢
    intro d
    rw [outstanding, h.table _ (blind_direction d)]
    exact hs d
  | ended c d s =>
    rw [portLimits_iff] at hs ⊢
    exact fun d' => (List.Sublist.countP_le List.eraseP_sublist).trans (hs d')
  | @joined s p e he hl =>
    rw [portLimits_iff] at hs ⊢
    intro d
    have hd := hs d
    simp only [outstanding, he, List.countP_append, List.countP_singleton] at hd hl ⊢
    split
    · next hde =>
      obtain rfl : e.txn.direction = d := by simpa using hde
      omega
    · omega
  | cleared s => exact ⟨Nat.zero_le _, Nat.zero_le _⟩
  | trans _ _ ih ih' => exact ih' (ih hs)
  | _ => exact hs

/-- Settles O54: of the parts of a move only a grant adds to the table, below the limit of its direction. -/
theorem everyStepKeepsThePortLimits : Obligations.EveryStepKeepsThePortLimits := by
  unfold Obligations.EveryStepKeepsThePortLimits
  intro s s' hs h
  exact (step_parts h).portLimits hs

/-! ### The receivers (R96 to R98, R107) -/

section
variable (s : State) (k : Lane)

theorem lr_abandonLanes : (abandonLanes s).lr k = (s.lr k).abandon := by
  simp [abandonLanes, State.lr]

theorem lr_configured (f : Lane → Bool) :
    ({ s with receivers := Vector.ofFn fun k => (s.lr k).configure (f k) } : State).lr k
      = (s.lr k).configure (f k) := by
  simp [State.lr]

theorem lr_resetBlocks : (resetBlocks s).lr k = { Receiver.reset with line := (s.lr k).line } := by
  simp [resetBlocks, State.lr]

end

/-- A receiver that takes its lane's enable is left alone, begins hunting from OFF, or is put OFF (R118). -/
theorem configure_cases (r : Receiver) (e : Bool) : r.configure e = r
    ∨ (r.lock = .off ∧ r.configure e = { r with lock := .hunting 0 })
    ∨ r.configure e = { r with lock := .off, frame := none, heldLevel := none, sampled := false } := by
  unfold Receiver.configure
  cases e with
  | false => exact .inr (.inr rfl)
  | true =>
    simp only [if_true]
    split
    · next h => exact .inr (.inl ⟨h, rfl⟩)
    all_goals exact .inl rfl

theorem Parts.stagingFits {s t : State} (h : Parts s t) (hs : StagingFits s) : StagingFits t := by
  induction h with
  | orderly h => exact h.staging hs
  | abandoned s => intro k; rw [lr_abandonLanes]; exact Staging.fits_empty
  | configured s f =>
    intro k
    rw [lr_configured]
    obtain h | ⟨_, h⟩ | h := configure_cases (s.lr k) (f k) <;> rw [h] <;> exact hs k
  | cleared s => intro k; rw [lr_resetBlocks]; exact Staging.fits_empty
  | trans _ _ ih ih' => exact ih' (ih hs)
  | _ => exact hs

theorem Parts.lockLaw {s t : State} (h : Parts s t) (hs : LockLaw s) : LockLaw t := by
  induction h with
  | orderly h => exact h.locks hs
  | abandoned s =>
    intro k
    obtain ⟨hl, hf⟩ := hs k
    rw [lr_abandonLanes]
    refine ⟨hl, fun h => ?_⟩
    show (s.lr k).frame.map _ = none
    rw [hf h]
    rfl
  | configured s f =>
    intro k
    obtain ⟨hl, hf⟩ := hs k
    rw [lr_configured]
    obtain h | ⟨ho, h⟩ | h := configure_cases (s.lr k) (f k) <;> rw [h]
    · exact ⟨hl, hf⟩
    · exact ⟨Nat.zero_lt_succ _, fun _ => hf (by simp [ho])⟩
    · exact ⟨trivial, fun _ => rfl⟩
  | cleared s => intro k; rw [lr_resetBlocks]; exact ⟨trivial, fun _ => rfl⟩
  | trans _ _ ih ih' => exact ih' (ih hs)
  | _ => exact hs

/-- Settles O55: the orderly operations keep the ranges, and so do the receivers' configuration, the giving up of
frames and the resets. -/
theorem everyStepKeepsTheReceiversInRange : Obligations.EveryStepKeepsTheReceiversInRange := by
  unfold Obligations.EveryStepKeepsTheReceiversInRange
  intro s s' ⟨hf, hl⟩ h
  exact ⟨(step_parts h).stagingFits hf, (step_parts h).lockLaw hl⟩

/-! ### Bindings, jobs and the Report Writer's queue (R3, R30, R120) -/

theorem standing_resetBlocks (s : State) (st : StreamId) : (resetBlocks s).standing st = .idle := by
  simp [resetBlocks, State.standing, State.ctx, Context.reset]

theorem Parts.bindingLaw {s t : State} (h : Parts s t) (hs : BindingLaw s) : BindingLaw t := by
  induction h with
  | orderly h => exact h.bindings hs
  | cleared s =>
    intro x y lane tag hx
    simp [holdsPair_eq_any, standing_resetBlocks, Standing.binding?] at hx
  | trans _ _ ih ih' => exact ih' (ih hs)
  | _ => exact hs

theorem Parts.queueLaw {s t : State} (h : Parts s t) (hs : QueueLaw s) : QueueLaw t := by
  induction h with
  | orderly h => exact h.jobs hs
  | walker s w h => exact h
  | cleared s => exact List.nodup_nil
  | trans _ _ ih ih' => exact ih' (ih hs)
  | _ => exact hs

theorem blind_client (c : Client) : Blind fun x => x.client != c := fun st x => by cases x <;> rfl

theorem reporterLaw_iff (s : State) :
    ReporterLaw s ↔ s.rw.queue.countP (fun x => x.client != reporterClient) = 0 := by
  simp [ReporterLaw]

theorem client_of_kind {x : Txn} (h : x.isDeviceHalf = true ∨ x.commitLane?.isSome = true) :
    x.client = reporterClient := by
  cases x <;> simp [Txn.isDeviceHalf, Txn.commitLane?] at h <;> rfl

theorem Parts.reporterLaw {s t : State} (h : Parts s t) (hs : ReporterLaw s) : ReporterLaw t := by
  induction h with
  | orderly h =>
    obtain ⟨made, hm⟩ := h.made
    have hmade : made.countP (fun x => x.client != reporterClient) = 0 := by
      simpa using fun x hx => client_of_kind (hm.kinds x hx)
    rw [reporterLaw_iff] at hs ⊢
    rw [hm.counts _ (blind_client _), hs, hmade]
  | reporter r h => exact fun x hx => (h x hx).elim (hs x) id
  | cleared s => exact fun x hx => absurd hx List.not_mem_nil
  | trans _ _ ih ih' => exact ih' (ih hs)
  | _ => exact hs

/-- Settles O56: START binds to a free pair only, every job that joins the queue is of a stream without one there,
and what joins the Report Writer's queue is its own. -/
theorem everyStepKeepsTheBindingAndQueueLaws : Obligations.EveryStepKeepsTheBindingAndQueueLaws := by
  unfold Obligations.EveryStepKeepsTheBindingAndQueueLaws
  refine ⟨fun s s' hs h => (step_parts h).bindingLaw hs, fun s s' hs h => (step_parts h).queueLaw hs,
    fun s s' hs h => (step_parts h).reporterLaw hs, fun s hs => ?_⟩
  have hlen : (s.walker.queue.map Job.stream).length ≤ 24 := by
    simpa using List.Nodup.length_le_card hs
  simpa using hlen

/-! ### The Board address and the snapshot (R171, R173, R182) -/

theorem board_toNat (s : State) : s.board.toNat = s.dc.boardHi.toNat * 2 ^ 32 + s.dc.boardLo.toNat := by
  simp only [State.board, BitVec.toNat_append]
  rw [Nat.shiftLeft_eq, Nat.mul_comm, Nat.two_pow_add_eq_or_of_lt s.dc.boardLo.isLt]

theorem boardAligned_iff (s : State) : BoardAligned s ↔ s.dc.boardLo.toNat % 4096 = 0 := by
  rw [BoardAligned, board_toNat]; omega

/-- The value BOARD_LO keeps of a write: its low 12 bits are discarded (R171). -/
theorem boardLo_value (v : Word) : (v &&& 0xFFFFF000#32).toNat = v.toNat - v.toNat % 4096 := by
  have h : v &&& 0xFFFFF000#32 = (v >>> 12) <<< 12 := by
    ext i hi
    interval_cases i <;> simp
  rw [h]
  simp [Nat.shiftRight_eq_div_pow, Nat.shiftLeft_eq]
  omega

theorem boardAligned_of_lo {s t : State} (h : t.dc.boardLo = s.dc.boardLo) (hs : BoardAligned s) :
    BoardAligned t := by
  rw [boardAligned_iff] at hs ⊢; rwa [h]

theorem boardAligned_of_board {s t : State} (h : t.board = s.board) (hs : BoardAligned s) : BoardAligned t := by
  rw [BoardAligned, h]; exact hs

/-- Of Device Control the issue of a request changes nothing, but that a header read's is marked (R174). -/
theorem clientIssued_dc (x : Txn) (s : State) : (clientIssued x s).dc = s.dc
    ∨ ∃ l, s.dc.device = .loading l
      ∧ (clientIssued x s).dc = { s.dc with device := .loading { l with issued := true } } := by
  cases x with
  | slotRead k a => unfold clientIssued; dsimp only; split <;> exact .inl rfl
  | dataWrite k a b =>
    unfold clientIssued
    dsimp only
    split
    · exact .inl (advance_dc ..)
    all_goals exact .inl rfl
  | headerRead a =>
    unfold clientIssued
    dsimp only
    split
    · next l hd => exact .inr ⟨l, hd, rfl⟩
    all_goals exact .inl rfl
  | _ => exact .inl rfl

theorem grantOne_dc (s : State) : (grantOne s).dc = s.dc
    ∨ ∃ l, s.dc.device = .loading l
      ∧ (grantOne s).dc = { s.dc with device := .loading { l with issued := true } } := by
  obtain h | ⟨c, x, p, -, -, h⟩ := grantOne_cases s
  · exact .inl (by rw [h])
  · rw [h]; exact clientIssued_dc x _

/-- Of Device Control the end of a Summary write changes the device state of a drained part (R147). -/
theorem summaryOk_dc (s : State) : (summaryOk s).dc = s.dc
    ∨ (s.working ∧ (summaryOk s).dc = { s.dc with device := .quiet }) := by
  unfold summaryOk
  split
  case isTrue hw =>
    split
    · exact .inl rfl
    · split
      · next p _ =>
        unfold completePublication
        dsimp only
        have hd := foldl_dc (fun s e => notifyPublished_dc s e) p.batch
          { s with rw := { s.rw with reportNumber := s.rw.reportNumber + 1, publication := none } }
        split
        · exact .inr ⟨hw, congrArg (fun c : Control => { c with device := .quiet }) hd⟩
        · exact .inl hd
      · exact .inl rfl
  case isFalse => exact .inl rfl

/-- After a header read LOADING goes on, ends in RUNNING, or fails back to its origin (R174 to R177). -/
theorem headerReadOk_dc (data : Read128) (s : State) : (headerReadOk data s).dc = s.dc
    ∨ ∃ l, s.dc.device = .loading l ∧
      ((∃ parts, (headerReadOk data s).dc = { s.dc with device := .loading ⟨l.origin, parts, false⟩ })
      ∨ (∃ n, (headerReadOk data s).dc = { s.dc with device := .running, snapshot := some n })
      ∨ (headerReadOk data s).dc = (failLoad causeConfigBad s).dc) := by
  unfold headerReadOk
  split
  case h_1 l hd =>
    refine .inr ⟨l, hd, ?_⟩
    dsimp only
    split
    · exact .inl ⟨_, rfl⟩
    · split
      · exact .inr (.inl ⟨_, enterRunning_dc ..⟩)
      · exact .inr (.inr rfl)
  all_goals exact .inl rfl

theorem failLoad_dc (bit : BitVec 4) (s : State) : (failLoad bit s).dc = s.dc
    ∨ ∃ l, s.dc.device = .loading l ∧ (failLoad bit s).dc = { s.dc with
      device := l.origin.state, cause := raisedCause s.dc.cause bit, result := .refused } := by
  unfold failLoad
  split
  case h_1 l hd => exact .inr ⟨l, hd, rfl⟩
  all_goals exact .inl rfl

theorem boardAligned_of_handed {x : Txn} {s t : State} (h : Handed x s t) (hs : BoardAligned s) : BoardAligned t := by
  cases h with
  | orderly h => exact boardAligned_of_board h.board hs
  | streamStatus | laneStatus => exact boardAligned_of_lo (by simp) hs
  | summary => obtain h | ⟨_, h⟩ := summaryOk_dc s <;> exact boardAligned_of_lo (by rw [h]) hs
  | header _ data =>
    obtain h | ⟨l, hd, ⟨_, h⟩ | ⟨_, h⟩ | h⟩ := headerReadOk_dc data s
    · exact boardAligned_of_lo (by rw [h]) hs
    · exact boardAligned_of_lo (by rw [h]) hs
    · exact boardAligned_of_lo (by rw [h]) hs
    · obtain h' | ⟨_, _, h'⟩ := failLoad_dc causeConfigBad s <;> exact boardAligned_of_lo (by rw [h, h']) hs
  | headerFault =>
    obtain h' | ⟨_, _, h'⟩ := failLoad_dc causeBoardRead s <;> exact boardAligned_of_lo (by rw [h']) hs
  | @broken t bit h => exact boardAligned_of_board (t := t) h.board hs

theorem boardAligned_of_move {s t : State} (h : Move s t) (hs : BoardAligned s) : BoardAligned t := by
  cases h with
  | orderly h => exact boardAligned_of_board h.board hs
  | boardLo v =>
    unfold boardLoWrite
    split
    · rw [boardAligned_iff]
      show (v &&& 0xFFFFF000#32).toNat % 4096 = 0
      rw [boardLo_value]; omega
    · exact hs
  | boardHi v => unfold boardHiWrite; split <;> exact boardAligned_of_lo (s := s) rfl hs
  | enable => unfold controlEnable; split <;> exact hs
  | quiesce => unfold controlQuiesce; split <;> exact hs
  | reset => unfold controlReset; split <;> exact hs
  | powerOn => rw [boardAligned_iff]; rfl
  | resetComplete => unfold resetComplete; split <;> exact hs
  | grant => obtain h | ⟨_, _, h⟩ := grantOne_dc s <;> exact boardAligned_of_lo (by rw [h]) hs
  | answered _ h _ hu => exact boardAligned_of_handed hu (boardAligned_of_board h.board hs)
  | _ => exact boardAligned_of_lo (by simp) hs

/-- The snapshot law reads the device state and the snapshot only. -/
theorem snapshotLaw_congr {s t : State} (hd : t.dc.device = s.dc.device) (hn : t.dc.snapshot = s.dc.snapshot)
    (hs : SnapshotLaw s) : SnapshotLaw t := by
  unfold SnapshotLaw at hs ⊢; rw [hd, hn]; exact hs

theorem snapshotLaw_running {s : State} {n : Snapshot} (hd : s.dc.device = .running)
    (hn : s.dc.snapshot = some n) : SnapshotLaw s := by
  simp [SnapshotLaw, hd, hn]

theorem snapshotLaw_working {s : State} (hw : s.working) (hs : SnapshotLaw s) : s.dc.snapshot ≠ none := by
  rcases hw with h | h <;> simpa [SnapshotLaw, h] using hs

theorem snapshotLaw_failLoad {bit : BitVec 4} {s t : State} (h : t.dc = (failLoad bit s).dc) (hs : SnapshotLaw s) :
    SnapshotLaw t := by
  obtain h' | ⟨l, hd, h'⟩ := failLoad_dc bit s
  · rw [h'] at h; exact snapshotLaw_congr (by rw [h]) (by rw [h]) hs
  · rw [h'] at h
    simp only [SnapshotLaw, hd] at hs
    cases ho : l.origin with
    | off =>
      rw [ho] at hs h
      simpa [SnapshotLaw, h, LoadOrigin.state] using hs.mp rfl
    | quiet =>
      rw [ho] at hs h
      simpa [SnapshotLaw, h, LoadOrigin.state] using fun hn => nomatch hs.mpr hn

theorem snapshotLaw_of_handed {x : Txn} {s t : State} (h : Handed x s t) (hs : SnapshotLaw s) : SnapshotLaw t := by
  cases h with
  | orderly h => exact snapshotLaw_congr h.device h.snapshot hs
  | streamStatus | laneStatus => exact snapshotLaw_congr (by simp) (by simp) hs
  | summary =>
    obtain h | ⟨hw, h⟩ := summaryOk_dc s
    · exact snapshotLaw_congr (by rw [h]) (by rw [h]) hs
    · have := snapshotLaw_working hw hs
      simpa [SnapshotLaw, h] using this
  | header _ data =>
    obtain h | ⟨l, hd, ⟨_, h⟩ | ⟨n, h⟩ | h⟩ := headerReadOk_dc data s
    · exact snapshotLaw_congr (by rw [h]) (by rw [h]) hs
    · simpa [SnapshotLaw, h, hd] using hs
    · exact snapshotLaw_running (n := n) (by rw [h]) (by rw [h])
    · exact snapshotLaw_failLoad h hs
  | headerFault => exact snapshotLaw_failLoad rfl hs
  | broken => exact trivial

theorem snapshotLaw_of_move {s t : State} (h : Move s t) (hs : SnapshotLaw s) : SnapshotLaw t := by
  cases h with
  | orderly h => exact snapshotLaw_congr h.device h.snapshot hs
  | boardLo v | boardHi v =>
    simp only [boardLoWrite, boardHiWrite]
    split <;> exact snapshotLaw_congr (s := s) rfl rfl hs
  | enable =>
    unfold controlEnable
    split
    case h_1 hd | h_2 hd => simpa [SnapshotLaw, State.setDevice, State.setResult, hd] using hs
    all_goals exact snapshotLaw_congr (s := s) rfl rfl hs
  | quiesce =>
    unfold controlQuiesce
    split
    · next hd =>
      have hn := snapshotLaw_working (.inl hd) hs
      exact hn
    · exact snapshotLaw_congr (s := s) rfl rfl hs
  | reset =>
    unfold controlReset
    split
    · exact snapshotLaw_congr (s := s) rfl rfl hs
    · exact trivial
  | powerOn => exact rfl
  | resetComplete =>
    unfold resetComplete
    split
    · exact rfl
    · exact hs
  | grant =>
    obtain h | ⟨l, hd, h⟩ := grantOne_dc s
    · exact snapshotLaw_congr (by rw [h]) (by rw [h]) hs
    · simpa [SnapshotLaw, h, hd] using hs
  | answered _ h _ hu => exact snapshotLaw_of_handed hu (snapshotLaw_congr h.device h.snapshot hs)
  | _ => exact snapshotLaw_congr (by simp) (by simp) hs

/-- Settles O57: BOARD_LO loses its low 12 bits at every write, and each change of the device state leaves a
snapshot exactly where its new state has one. -/
theorem everyStepKeepsTheBoardAndSnapshotLaws : Obligations.EveryStepKeepsTheBoardAndSnapshotLaws := by
  unfold Obligations.EveryStepKeepsTheBoardAndSnapshotLaws
  exact ⟨fun s s' => law_of_moves (fun _ _ => id)
      fun s t hs h => boardAligned_of_move h hs,
    fun s s' => law_of_moves (fun _ _ => id) fun s t hs h => snapshotLaw_of_move h hs⟩

end Sys2Proof.Machine

/-! PROOFS. The quiet law (R75, R147, R180 to R182): where the part is settled no frame is held, and a closing
publication is under way only past the quiesce point. -/

namespace Sys2Proof.Machine

/-! ### The device states -/

section
variable {s t : State}

theorem settled_congr (hd : t.dc.device = s.dc.device) (hr : t.rw.drain = s.rw.drain) : t.settled ↔ s.settled := by
  simp only [State.settled, hd, hr]

theorem not_running_of_settled (h : s.settled) : s.dc.device ≠ .running := by
  intro hr
  simp [State.settled, hr] at h

theorem not_settled_of (h : s.dc.device = .running ∨ s.dc.device = .resetting ∨ s.dc.device = .broken) :
    ¬ s.settled := by
  rcases h with h | h | h <;> simp [State.settled, h]

/-- Where the part is settled, the law says that every writer is IDLE. -/
theorem QuietLaw.idle (hs : QuietLaw s) (h : s.settled) (k : Lane) : s.lw k = .idle := hs.1 h k

/-- Outside QUIESCING no closing publication is under way. -/
theorem QuietLaw.noClosing (hs : QuietLaw s) (hd : s.dc.device ≠ .quiescing) {p : Publication}
    (hp : s.rw.publication = some p) : p.closing = false :=
  Bool.eq_false_iff.mpr fun hc => hd (hs.2 p hp hc).1

/-- Before the quiesce point no closing publication is under way. -/
theorem QuietLaw.noClosing_of_notBegun (hs : QuietLaw s) (hd : s.rw.drain = .notBegun) {p : Publication}
    (hp : s.rw.publication = some p) : p.closing = false :=
  Bool.eq_false_iff.mpr fun hc => (hs.2 p hp hc).2 hd

/-- The law goes over to a state that is no more settled, where writers stay IDLE and a closing publication is one
that was. -/
theorem QuietLaw.mono (hs : QuietLaw s) (hset : t.settled → s.settled)
    (hl : s.settled → ∀ k, s.lw k = .idle → t.lw k = .idle)
    (hp : ∀ p, t.rw.publication = some p → p.closing = true →
      (∃ q, s.rw.publication = some q ∧ q.closing = true) ∧ t.dc.device = s.dc.device
        ∧ t.rw.drain = s.rw.drain) : QuietLaw t := by
  refine ⟨fun h k => hl (hset h) k (hs.idle (hset h) k), fun p h hc => ?_⟩
  obtain ⟨⟨q, hq, hqc⟩, hd, hr⟩ := hp p h hc
  rw [hd, hr]
  exact hs.2 q hq hqc

/-- A state without a closing publication keeps the law if it is not settled or every writer is IDLE. -/
theorem quietLaw_of_noClosing (h : ¬ t.settled ∨ ∀ k, t.lw k = .idle)
    (hp : ∀ p, t.rw.publication = some p → p.closing = false) : QuietLaw t :=
  ⟨fun ht k => h.elim (absurd ht) fun h => h k, fun p h hc => by simp [hp p h] at hc⟩

theorem QuietLaw.orderly {a : Ack} (hs : QuietLaw s) (h : Orderly a s t) : QuietLaw t := by
  refine hs.mono (settled_congr h.device h.drain).mp
    (fun hset k => h.idle (not_running_of_settled hset) k) fun p hp hc => ?_
  rw [h.publication] at hp
  exact ⟨⟨p, hp, hc⟩, h.device, h.drain⟩

end

/-! ### The Report Writer's moves -/

section
variable (s : State)

/-- A lane refresh period's end changes nothing, or the next period's end and, in RUNNING with none in progress,
begins a lane refresh. -/
theorem refreshExpired_cases : refreshExpired s = s ∨ (s.dc.device = .running ∧ ∃ due,
    refreshExpired s = { s with rw := { s.rw with refreshDue := due } }
    ∨ (s.rw.laneUnanswered = 0 ∧ refreshExpired s = { s with rw := { s.rw with
        refreshDue := due, queue := s.rw.queue ++ allLanes.map (laneStatusWrite s), laneUnanswered := 12 } })) := by
  unfold refreshExpired
  split
  case h_1 due n _ _ =>
    split
    · next h =>
      refine .inr ⟨h.1, some (refreshFrom n due), ?_⟩
      dsimp only
      split
      · next h0 => exact .inr ⟨h0, rfl⟩
      · exact .inl rfl
    · exact .inl rfl
  all_goals exact .inl rfl

/-- A publication begins with the ready pending streams, or nothing happens. -/
theorem beginPublication_cases : beginPublication s = s
    ∨ (s.working ∧ s.rw.publication = none ∧ s.rw.initial = .complete
      ∧ beginPublication s = { s with rw := { s.rw with
        pendingSet := unpend (readyBatch s) s.rw.pendingSet
        queue := s.rw.queue ++ (readyBatch s).map (streamStatusWrite s)
        publication := some ⟨(readyBatch s).map fun st => (st, recordedLink s st), .status (readyBatch s).length,
          false⟩ } }) := by
  unfold beginPublication
  dsimp only
  split
  · next h => exact .inr ⟨h.1, h.2.1, h.2.2.1, rfl⟩
  · exact .inl rfl

/-- The initial publication's Summary write is made once all it waits for has ended. -/
theorem initialSummary_cases : initialSummary s = s
    ∨ (s.rw.initial = .pending 0 false ∧ ∃ x, x.isSummary = true ∧ initialSummary s = { s with rw := { s.rw with
        initial := .pending 0 true, queue := s.rw.queue ++ [x] } }) := by
  unfold initialSummary
  split
  · next h => exact .inr ⟨h.1, _, rfl, rfl⟩
  · exact .inl rfl

/-- The end of a status write is counted down; with the last one a Summary write is made. -/
theorem streamStatusOk_cases : (streamStatusOk s = s ∧ (¬ s.working ∨ s.rw.statusAwaited = 0))
    ∨ (∃ n made, s.rw.initial = .pending n made
      ∧ streamStatusOk s = initialSummary { s with rw := { s.rw with initial := .pending (n - 1) made } })
    ∨ (s.rw.initial = .complete ∧ ∃ batch n closing, s.rw.publication = some ⟨batch, .status n, closing⟩ ∧
      ((n ≤ 1 ∧ ∃ x, x.isSummary = true ∧ streamStatusOk s = { s with rw := { s.rw with
          publication := some ⟨batch, .summary, closing⟩, queue := s.rw.queue ++ [x] } })
      ∨ streamStatusOk s = { s with rw := { s.rw with publication := some ⟨batch, .status (n - 1), closing⟩ } })) := by
  unfold streamStatusOk
  split
  case isFalse hw => exact .inl ⟨rfl, .inl hw⟩
  case isTrue hw =>
    split
    · next n made hi => exact .inr (.inl ⟨n, made, hi, rfl⟩)
    · next hi =>
      split
      · next batch n closing hp =>
        refine .inr (.inr ⟨hi, batch, n, closing, hp, ?_⟩)
        split
        · next hn => exact .inl ⟨hn, _, rfl, rfl⟩
        · exact .inr rfl
      · next hp => exact .inl ⟨rfl, .inr (by simp [Reporter.statusAwaited, hi, hp])⟩
      · next hp => exact .inl ⟨rfl, .inr (by simp [Reporter.statusAwaited, hi, hp])⟩

theorem laneStatusOk_cases : (laneStatusOk s = s ∧ ¬ s.working)
    ∨ laneStatusOk s = initialSummary { s with rw := { s.rw with laneUnanswered := s.rw.laneUnanswered - 1 } } := by
  unfold laneStatusOk
  split
  · exact .inr rfl
  · next h => exact .inl ⟨rfl, h⟩

/-- The state in which a completed publication tells the SCT of its batch. -/
def State.published (s : State) (p : Publication) : State :=
  p.batch.foldl (fun s e => notifyPublished e s)
    { s with rw := { s.rw with reportNumber := s.rw.reportNumber + 1, publication := none } }

theorem completePublication_eq (p : Publication) : completePublication p s = if p.closing then
    { s.published p with
      rw := { (s.published p).rw with drain := .notBegun }
      dc := { (s.published p).dc with device := .quiet } } else s.published p := rfl

theorem published_orderly (p : Publication) : Orderly .nothing
    { s with rw := { s.rw with reportNumber := s.rw.reportNumber + 1, publication := none } } (s.published p) :=
  Orderly.foldl notifyPublished_orderly p.batch _

/-- The end of a Summary write completes the initial publication, or the publication in progress. -/
theorem summaryOk_cases : (summaryOk s = s ∧ (¬ s.working ∨ s.rw.publication = none ∧ s.rw.initial = .complete))
    ∨ (∃ n made, s.rw.initial = .pending n made
      ∧ summaryOk s = { s with rw := { s.rw with initial := .complete } })
    ∨ (s.working ∧ s.rw.initial = .complete ∧ ∃ p, s.rw.publication = some p
      ∧ summaryOk s = completePublication p s) := by
  unfold summaryOk
  split
  case isFalse hw => exact .inl ⟨rfl, .inl hw⟩
  case isTrue hw =>
    split
    · next n made hi => exact .inr (.inl ⟨n, made, hi, rfl⟩)
    · next hi =>
      split
      · next p hp => exact .inr (.inr ⟨hw, hi, p, hp, rfl⟩)
      · next hp => exact .inl ⟨rfl, .inr ⟨hp, hi⟩⟩

/-- The drain's steps change nothing until their conditions hold (R147). -/
theorem quiescePoint_cases : quiescePoint s = s
    ∨ (s.dc.device = .quiescing ∧ s.rw.drain = .notBegun ∧ (∀ k, s.lw k = .idle) ∧ s.walker.inHand = none
      ∧ quiescePoint s = { s with rw := { s.rw with drain := .publications } }) := by
  unfold quiescePoint
  split
  · next h =>
    obtain ⟨hd, hn, hw, hj⟩ := h
    exact .inr ⟨hd, hn, by simpa [writersIdle, allLanes] using hw, hj, rfl⟩
  · exact .inl rfl

theorem drainRefresh_cases : drainRefresh s = s
    ∨ (s.dc.device = .quiescing ∧ s.rw.drain = .publications ∧ (∀ st, s.isPending st = false)
      ∧ s.rw.publication = none ∧ s.rw.initial = .complete ∧ s.rw.laneUnanswered = 0
      ∧ drainRefresh s = { s with rw := { s.rw with
        drain := .laneRefresh, queue := s.rw.queue ++ allLanes.map (laneStatusWrite s), laneUnanswered := 12 } }) := by
  unfold drainRefresh
  split
  · next h =>
    obtain ⟨hd, hn, hp, hpub, hi, hl⟩ := h
    exact .inr ⟨hd, hn, by simpa [pendingEmpty, allStreams] using hp, hpub, hi, hl, rfl⟩
  · exact .inl rfl

theorem closingPublication_cases : closingPublication s = s
    ∨ (s.dc.device = .quiescing ∧ s.rw.drain = .laneRefresh ∧ s.rw.laneUnanswered = 0 ∧ s.rw.publication = none
      ∧ ∃ x, x.isSummary = true ∧ closingPublication s = { s with rw := { s.rw with
        drain := .closing, publication := some ⟨[], .summary, true⟩, queue := s.rw.queue ++ [x] } }) := by
  unfold closingPublication
  split
  · next h =>
    obtain ⟨hd, hn, hl, hp⟩ := h
    exact .inr ⟨hd, hn, hl, hp, _, rfl, rfl⟩
  · exact .inl rfl

/-- At entry to RUNNING from QUIET the streams are retested, all are pended, and a lane refresh begins (R146). -/
theorem resumeFromQuiet_cases : ∃ x, Orderly .nothing s x ∧ resumeFromQuiet s = { x with rw := { x.rw with
    pendingSet := Vector.replicate 24 true, queue := x.rw.queue ++ allLanes.map (laneStatusWrite x)
    laneUnanswered := 12 } } := by
  refine ⟨_, .foldl (fun s st => entryTest_orderly s st) allStreams s, ?_⟩
  unfold resumeFromQuiet
  dsimp only
  generalize allStreams.foldl (fun s st => entryTest st s) s = x
  rfl

/-! ### The quiet law -/

variable {s}

/-- The law reads the writers, the device state, the drain and the publication; of a change of the Report Writer's
publication it asks that no closing one comes about. -/
theorem QuietLaw.reporter (hs : QuietLaw s) {r : Reporter} (hd : r.drain = s.rw.drain)
    (hp : ∀ p, r.publication = some p → p.closing = true → ∃ q, s.rw.publication = some q ∧ q.closing = true) :
    QuietLaw { s with rw := r } :=
  hs.mono (settled_congr (s := s) (t := { s with rw := r }) rfl hd).mp (fun _ _ => id)
    fun p h hc => ⟨hp p h hc, rfl, hd⟩

theorem QuietLaw.reporter_same (hs : QuietLaw s) {r : Reporter} (hd : r.drain = s.rw.drain)
    (hp : r.publication = s.rw.publication) : QuietLaw { s with rw := r } :=
  hs.reporter hd fun p h hc => ⟨p, hp ▸ h, hc⟩

theorem QuietLaw.initialSummary (hs : QuietLaw s) : QuietLaw (initialSummary s) := by
  obtain h | ⟨_, x, _, h⟩ := initialSummary_cases s <;> rw [h]
  · exact hs
  · exact hs.reporter_same rfl rfl

/-- A change of Device Control that keeps the device state keeps the law. -/
theorem QuietLaw.control (hs : QuietLaw s) {c : Control} (hd : c.device = s.dc.device) :
    QuietLaw { s with dc := c } :=
  hs.mono (settled_congr (s := s) (t := { s with dc := c }) hd rfl).mp (fun _ _ => id)
    fun p h hc => ⟨⟨p, h, hc⟩, hd, rfl⟩

/-- Device states among those in which every writer is IDLE and no publication is closing. -/
theorem QuietLaw.rest (hs : QuietLaw s) {c : Control} (hset : s.settled) (hd : s.dc.device ≠ .quiescing) :
    QuietLaw { s with dc := c } :=
  quietLaw_of_noClosing (.inr (hs.idle hset)) fun _ => hs.noClosing hd

theorem quietLaw_failLoad (hs : QuietLaw s) (bit : BitVec 4) : QuietLaw (failLoad bit s) := by
  unfold failLoad
  split
  case h_1 l hd => exact hs.rest (.inr (.inr (.inl ⟨l, hd⟩))) (by simp [hd])
  all_goals exact hs

theorem startRunning_lw (n : Snapshot) (k : Lane) : (startRunning n s).lw k = s.lw k := rfl

theorem enterRunning_publication (o : LoadOrigin) (n : Snapshot) :
    (enterRunning o n s).rw.publication = s.rw.publication := by
  cases o with
  | off => rfl
  | quiet =>
    obtain ⟨x, hx, h⟩ := resumeFromQuiet_cases (startRunning n s)
    exact (congrArg (fun x => x.rw.publication) h).trans hx.publication

theorem quietLaw_headerReadOk (hs : QuietLaw s) (data : Read128) : QuietLaw (headerReadOk data s) := by
  unfold headerReadOk
  split
  case h_1 l hd =>
    have hset : s.settled := .inr (.inr (.inl ⟨l, hd⟩))
    dsimp only
    split
    · exact hs.rest hset (by simp [hd])
    · split
      · refine quietLaw_of_noClosing (.inl (not_settled_of (.inl (by rw [enterRunning_dc])))) fun p hp => ?_
        rw [enterRunning_publication] at hp
        exact hs.noClosing (by simp [hd]) hp
      · exact quietLaw_failLoad hs _
  all_goals exact hs

theorem quietLaw_summaryOk (hs : QuietLaw s) : QuietLaw (summaryOk s) := by
  obtain ⟨h, _⟩ | ⟨_, _, _, h⟩ | ⟨hw, _, p, hp, h⟩ := summaryOk_cases s <;> rw [h]
  · exact hs
  · exact hs.reporter_same rfl rfl
  · have hpub := published_orderly s p
    have hnone : (s.published p).rw.publication = none := hpub.publication
    rw [completePublication_eq]
    split
    · next hc =>
      obtain ⟨hd, hb⟩ := hs.2 p hp hc
      have hset : s.settled := .inr (.inr (.inr ⟨hd, hb⟩))
      exact quietLaw_of_noClosing (.inr fun k => hpub.idle (not_running_of_settled hset) k (hs.idle hset k))
        fun q hq => by rw [show _ = none from hnone] at hq; simp at hq
    · have h1 : QuietLaw { s with rw := { s.rw with reportNumber := s.rw.reportNumber + 1, publication := none } } :=
        hs.reporter rfl fun q hq => by simp at hq
      exact h1.orderly hpub

theorem quietLaw_of_handed {x : Txn} {t : State} (h : Handed x s t) (hs : QuietLaw s) : QuietLaw t := by
  cases h with
  | orderly h _ => exact hs.orderly h
  | streamStatus =>
    obtain ⟨h, _⟩ | ⟨n, made, _, h⟩ | ⟨_, batch, n, closing, hp, ⟨_, x, _, h⟩ | h⟩ := streamStatusOk_cases s <;> rw [h]
    · exact hs
    · exact QuietLaw.initialSummary (hs.reporter_same rfl rfl)
    all_goals
      refine hs.reporter rfl fun p h hc => ⟨_, hp, ?_⟩
      obtain rfl := Option.some.inj h
      exact hc
  | laneStatus =>
    obtain ⟨h, _⟩ | h := laneStatusOk_cases s <;> rw [h]
    · exact hs
    · exact QuietLaw.initialSummary (hs.reporter_same rfl rfl)
  | summary => exact quietLaw_summaryOk hs
  | header _ data => exact quietLaw_headerReadOk hs data
  | headerFault => exact quietLaw_failLoad hs _
  | broken =>
    exact quietLaw_of_noClosing (.inl (not_settled_of (.inr (.inr rfl)))) fun p h => by simp [enterBroken, Reporter.broken] at h

/-- What a grant does: nothing; an orderly operation on a longer table; the Report Writer's queue one shorter; or the
header read of LOADING marked as issued. -/
theorem clientIssued_cases (x : Txn) : (x.client ≠ reporterClient ∧ Orderly .nothing s (clientIssued x s))
    ∨ (x.client = reporterClient
      ∧ clientIssued x s = { s with rw := { s.rw with queue := s.rw.queue.tail } })
    ∨ (x.isHeaderRead = true ∧ ∃ l, s.dc.device = .loading l
      ∧ clientIssued x s = { s with dc := { s.dc with device := .loading { l with issued := true } } }) := by
  by_cases hc : x.client = reporterClient
  · refine .inr (.inl ⟨hc, ?_⟩)
    cases x with
    | slotRead k _ | dataWrite k _ _ => exact absurd hc (laneClient_ne_reporterClient k)
    | anchorRead _ | orderRead _ | linkRead _ | headerRead _ => exact absurd hc walkerClient_ne_reporterClient
    | _ => rfl
  · cases hh : x.isHeaderRead with
    | false => exact .inl ⟨hc, clientIssued_orderly s hc hh⟩
    | true =>
      cases x with
      | headerRead a =>
        unfold clientIssued
        dsimp only
        split
        · next l hd => exact .inr (.inr ⟨rfl, l, hd, rfl⟩)
        all_goals exact .inl ⟨hc, .refl _ s⟩
      | _ => simp [Txn.isHeaderRead] at hh

theorem quietLaw_grantOne (hs : QuietLaw s) : QuietLaw (grantOne s) := by
  obtain h | ⟨c, x, p, -, -, h⟩ := grantOne_cases s <;> rw [h]
  · exact hs
  · unfold issue
    have hs' : ∀ p : MemoryPort, QuietLaw { s with port := p } := fun _ => hs
    generalize hx : ({ s with port := _ } : State) = y
    have hy : QuietLaw y := hx ▸ hs' _
    obtain ⟨_, h⟩ | ⟨_, h⟩ | ⟨_, l, hd, h⟩ := clientIssued_cases (s := y) x
    · exact hy.orderly h
    · rw [h]; exact hy.reporter_same rfl rfl
    · rw [h]; exact hy.rest (.inr (.inr (.inl ⟨l, hd⟩))) (by simp [hd])

variable (s) in
theorem lw_resetBlocks (k : Lane) : (resetBlocks s).lw k = .idle := by simp [resetBlocks, State.lw]

theorem quietLaw_of_move {t : State} (h : Move s t) (hs : QuietLaw s) : QuietLaw t := by
  cases h with
  | orderly h _ => exact hs.orderly h
  | boardLo v => unfold boardLoWrite; split <;> exact hs.control rfl
  | boardHi v => unfold boardHiWrite; split <;> exact hs.control rfl
  | enable =>
    unfold controlEnable
    split
    case h_1 hd => exact hs.rest (.inl hd) (by simp [hd])
    case h_2 hd => exact hs.rest (.inr (.inl hd)) (by simp [hd])
    all_goals exact hs.control rfl
  | quiesce =>
    unfold controlQuiesce
    split
    · next hd =>
      exact quietLaw_of_noClosing (.inl (by simp [State.settled, enterQuiescing, State.setResult]))
        fun p hp => hs.noClosing (by simp [hd]) hp
    · exact hs.control rfl
  | reset =>
    unfold controlReset
    split
    · exact hs.control rfl
    · exact quietLaw_of_noClosing (.inl (not_settled_of (.inr (.inl rfl)))) fun p hp => nomatch hp
  | powerOn => exact quietLaw_of_noClosing (.inr (lw_resetBlocks s)) fun p hp => nomatch hp
  | resetComplete =>
    unfold resetComplete
    split
    · exact quietLaw_of_noClosing (.inr (lw_resetBlocks s)) fun p hp => nomatch hp
    · exact hs
  | grant => exact quietLaw_grantOne hs
  | refresh =>
    obtain h | ⟨_, due, h | ⟨_, h⟩⟩ := refreshExpired_cases s <;> rw [h]
    · exact hs
    all_goals exact hs.reporter_same rfl rfl
  | publish =>
    obtain h | ⟨_, _, _, h⟩ := beginPublication_cases s <;> rw [h]
    · exact hs
    · exact hs.reporter rfl fun p hp hc => by
        obtain rfl := Option.some.inj hp
        exact nomatch hc
  | quiescePoint =>
    obtain h | ⟨_, hn, hl, _, h⟩ := quiescePoint_cases s <;> rw [h]
    · exact hs
    · exact quietLaw_of_noClosing (.inr hl) fun p hp => hs.noClosing_of_notBegun hn hp
  | drainRefresh =>
    obtain h | ⟨hd, hp, _, hn, _, _, h⟩ := drainRefresh_cases s <;> rw [h]
    · exact hs
    · exact quietLaw_of_noClosing (.inr (hs.idle (.inr (.inr (.inr ⟨hd, by simp [hp]⟩))))) fun p hp => by
        rw [show _ = none from hn] at hp; simp at hp
  | closing =>
    obtain h | ⟨hd, hp, _, _, x, _, h⟩ := closingPublication_cases s <;> rw [h]
    · exact hs
    · exact ⟨fun _ => hs.idle (.inr (.inr (.inr ⟨hd, by simp [hp]⟩))), fun p _ _ => ⟨hd, by simp⟩⟩
  | answered _ h _ hu => exact quietLaw_of_handed hu (QuietLaw.orderly (s := removeOldest _ _ s) hs h)

end

end Sys2Proof.Machine

/-! PROOFS. The drained law (R34, R138, R139, R147, R180, R181): a stream with a device half under way is pending; no
job is queued from QUIESCE on, and past the drain's steps none is in hand and no stream is pending. -/

namespace Sys2Proof.Machine

/-! ### Device halves under way -/

/-- The device half of a stream. -/
def halfOf (st : StreamId) (x : Txn) : Bool := x.deviceHalfStream? == some st

theorem blind_halfOf (st : StreamId) : Blind (halfOf st) := fun y x => by cases x <;> rfl

theorem unended_ne_zero_iff (s : State) (p : Txn → Bool) :
    s.unended p ≠ 0 ↔ (∃ x ∈ s.rw.queue, p x = true) ∨ ∃ e ∈ s.port.table, p e.txn = true := by
  have h : 0 < s.unended p ↔ _ := Nat.add_pos_iff_pos_or_pos
  rw [← Nat.pos_iff_ne_zero, h, List.countP_pos_iff, List.countP_pos_iff]

/-- Every stream with a device half under way is pending. -/
def HalvesPending (s : State) : Prop := ∀ st, s.unended (halfOf st) ≠ 0 → s.isPending st = true

theorem halfLaw_iff (s : State) : HalfLaw s ↔ (s.counts → HalvesPending s) := by
  simp only [HalfLaw, HalvesPending, unended_ne_zero_iff, halfOf, beq_iff_eq]

/-- Transactions made and not ended, after an orderly operation. -/
theorem Orderly.unended {a : Ack} {s t : State} (h : Orderly a s t) :
    ∃ made, Joined s t made ∧ ∀ p, Blind p → t.unended p = s.unended p + made.countP p := by
  obtain ⟨made, hm⟩ := h.made
  refine ⟨made, hm, fun p hp => ?_⟩
  simp only [State.unended, hm.counts p hp, h.table p hp]
  omega

theorem Still.isPending {s t : State} (h : Still s t) (st : StreamId) : t.isPending st = s.isPending st := by
  simp only [State.isPending, h.pendingSet]

section
variable {s t : State} {a : Ack}

theorem counts_congr (hd : t.dc.device = s.dc.device) : t.counts ↔ s.counts := by
  simp only [State.counts, hd]

/-- Where frames are counted and nothing can be pended, the part is settled and takes no requests. -/
theorem settled_of_not_pendsAllowed (hc : s.counts) (hp : ¬ s.pendsAllowed) : s.settled ∧ ¬ s.working := by
  unfold State.pendsAllowed at hp
  cases hd : s.dc.device <;> simp_all [State.settled]

theorem calm_of_settled (hs : QuietLaw s) (h : s.settled) (hj : s.working → s.walker.inHand = none) : Calm s :=
  ⟨not_running_of_settled h, hs.idle h, hj⟩

/-- Streams with a device half under way stay pending in an orderly operation that is still where nothing can be
pended. -/
theorem halvesPending_orderly (hq : QuietLaw s) (hc : s.counts) (hs : HalvesPending s) (h : Orderly a s t)
    (hst : Calm s → ¬ s.working → Still s t) : HalvesPending t := by
  intro st ht
  by_cases hp : s.pendsAllowed
  · obtain ⟨made, hm, hu⟩ := h.unended
    rw [hu _ (blind_halfOf st)] at ht
    by_cases h0 : s.unended (halfOf st) = 0
    · have hpos : 0 < made.countP (halfOf st) := by omega
      obtain ⟨x, hx, hxs⟩ := List.countP_pos_iff.mp hpos
      exact hm.pended hp x hx st (by simpa [halfOf] using hxs)
    · exact h.pending st (hs st h0)
  · obtain ⟨hset, hw⟩ := settled_of_not_pendsAllowed hc hp
    have hstill := hst (calm_of_settled hq hset fun h => absurd h hw) hw
    rw [hstill.isPending]
    refine hs st ?_
    rwa [State.unended, hstill.queue, h.table _ (blind_halfOf st)] at ht

theorem halfLaw_orderly (hq : QuietLaw s) (hs : HalfLaw s) (h : Orderly a s t)
    (hst : Calm s → ¬ s.working → Still s t) : HalfLaw t := by
  rw [halfLaw_iff] at hs ⊢
  intro hc
  have hc' : s.counts := (counts_congr h.device).mp hc
  exact halvesPending_orderly hq hc' (hs hc') h hst

/-- Device halves stay pended when none joins those under way and nothing but their absence takes a stream out of
the pending set. -/
theorem HalvesPending.mono (hs : HalvesPending s)
    (hu : ∀ st, t.unended (halfOf st) ≠ 0 → s.unended (halfOf st) ≠ 0)
    (hp : ∀ st, t.unended (halfOf st) ≠ 0 → s.isPending st = true → t.isPending st = true) : HalvesPending t :=
  fun st h => hp st h (hs st (hu st h))

theorem HalfLaw.mono (hs : HalfLaw s) (hc : t.counts → s.counts)
    (hu : ∀ st, t.unended (halfOf st) ≠ 0 → s.unended (halfOf st) ≠ 0)
    (hp : ∀ st, t.unended (halfOf st) ≠ 0 → s.isPending st = true → t.isPending st = true) : HalfLaw t := by
  rw [halfLaw_iff] at hs ⊢
  exact fun h => (hs (hc h)).mono hu hp

theorem halfLaw_of_not_counts (h : ¬ s.counts) : HalfLaw s := fun hc => absurd hc h

end

/-! ### The parts of the drained law -/

/-- Past the quiesce point, and wherever the part is quieted but in QUIESCING. -/
def State.pastQuiesce (s : State) : Prop := s.dc.device ≠ .quiescing ∨ s.rw.drain ≠ .notBegun

/-- From the drain's lane refresh on, and wherever the part is quieted but in QUIESCING. -/
def State.drained (s : State) : Prop :=
  s.dc.device ≠ .quiescing ∨ s.rw.drain = .laneRefresh ∨ s.rw.drain = .closing

/-- No job is queued where the part is quieted, none is in hand past the quiesce point, and no stream is pending once
it is drained. -/
structure Quieted (s : State) : Prop where
  queue : s.quieted → s.walker.queue = []
  inHand : s.quieted → s.pastQuiesce → s.walker.inHand = none
  pending : s.quieted → s.drained → ∀ st, s.isPending st = false

/-- A closing publication is the drain's last step. -/
def ClosingLast (s : State) : Prop := ∀ p, s.rw.publication = some p → p.closing = true → s.rw.drain = .closing

theorem drainedLaw_iff (s : State) : DrainedLaw s ↔ HalfLaw s ∧ Quieted s ∧ ClosingLast s :=
  ⟨fun ⟨h, hq, hc⟩ => ⟨h, ⟨fun h => (hq h).1, fun h => (hq h).2.1, fun h => (hq h).2.2⟩, hc⟩,
    fun ⟨h, hq, hc⟩ => ⟨h, fun h => ⟨hq.queue h, hq.inHand h, hq.pending h⟩, hc⟩⟩

section
variable {s t : State} {a : Ack}

theorem drained_pastQuiesce (h : s.drained) : s.pastQuiesce := by
  rcases h with h | h | h
  · exact .inl h
  all_goals exact .inr (by simp [h])

theorem settled_of_pastQuiesce (hq : s.quieted) (h : s.pastQuiesce) : s.settled := by
  rcases hq with hd | hd | ⟨l, hd, _⟩
  · exact .inr (.inr (.inr ⟨hd, h.resolve_left (not_not.mpr hd)⟩))
  · exact .inr (.inl hd)
  · exact .inr (.inr (.inl ⟨l, hd⟩))

theorem counts_of_quieted (hq : s.quieted) : s.counts := by
  rcases hq with hd | hd | ⟨l, hd, _⟩ <;> simp [State.counts, hd]

theorem not_running_of_quieted (hq : s.quieted) : s.dc.device ≠ .running := by
  rcases hq with hd | hd | ⟨l, hd, _⟩ <;> simp [hd]

theorem quieted_of_not_quieted (h : ¬ s.quieted) : Quieted s :=
  ⟨fun hq => absurd hq h, fun hq => absurd hq h, fun hq => absurd hq h⟩

/-- The law goes over to a state in which as little is asked and as much is empty. -/
theorem Quieted.mono (hs : Quieted s) (hq : t.quieted → s.quieted)
    (hb : t.quieted → t.pastQuiesce → s.pastQuiesce) (hd : t.quieted → t.drained → s.drained)
    (hqueue : s.quieted → s.walker.queue = [] → t.walker.queue = [])
    (hhand : s.quieted → s.walker.inHand = none → t.walker.inHand = none)
    (hp : ∀ st, s.quieted → s.drained → s.isPending st = false → t.isPending st = false) : Quieted t where
  queue h := hqueue (hq h) (hs.queue (hq h))
  inHand h h' := hhand (hq h) (hs.inHand (hq h) (hb h h'))
  pending h h' st := hp st (hq h) (hd h h') (hs.pending (hq h) (hd h h') st)

theorem quieted_congr (hd : t.dc.device = s.dc.device) : t.quieted ↔ s.quieted := by
  simp only [State.quieted, hd]

theorem pastQuiesce_congr (hd : t.dc.device = s.dc.device) (hr : t.rw.drain = s.rw.drain) :
    t.pastQuiesce ↔ s.pastQuiesce := by simp only [State.pastQuiesce, hd, hr]

theorem drained_congr (hd : t.dc.device = s.dc.device) (hr : t.rw.drain = s.rw.drain) :
    t.drained ↔ s.drained := by simp only [State.drained, hd, hr]

/-- Where the part is quieted and drained it is calm. -/
theorem calm_of_drained (hql : QuietLaw s) (hs : Quieted s) (hq : s.quieted) (hd : s.drained) : Calm s :=
  have hp := drained_pastQuiesce hd
  calm_of_settled hql (settled_of_pastQuiesce hq hp) fun _ => hs.inHand hq hp

theorem Quieted.orderly (hs : Quieted s) (h : Orderly a s t) (hst : s.quieted → s.drained → Still s t) :
    Quieted t :=
  hs.mono (quieted_congr h.device).mp (fun _ => (pastQuiesce_congr h.device h.drain).mp)
    (fun _ => (drained_congr h.device h.drain).mp)
    (fun hq he => (h.jobsStay (not_running_of_quieted hq)).trans he)
    (fun hq => h.handStays (not_running_of_quieted hq))
    (fun st hq hd he => ((hst hq hd).isPending st).trans he)

theorem ClosingLast.orderly (hs : ClosingLast s) (h : Orderly a s t) : ClosingLast t := by
  intro p hp hc
  rw [h.publication] at hp
  rw [h.drain]
  exact hs p hp hc

/-- The drained law over an orderly operation that is still where the part is calm. -/
theorem DrainedLaw.orderly (hql : QuietLaw s) (hs : DrainedLaw s) (h : Orderly a s t)
    (hst : Calm s → (¬ s.working ∨ s.quieted ∧ s.drained) → Still s t) : DrainedLaw t := by
  rw [drainedLaw_iff] at hs ⊢
  obtain ⟨hh, hq, hc⟩ := hs
  exact ⟨halfLaw_orderly hql hh h fun h hw => hst h (.inl hw),
    hq.orderly h fun h1 h2 => hst (calm_of_drained hql hq h1 h2) (.inr ⟨h1, h2⟩), hc.orderly h⟩

/-- Only the Report Writer changes: no device half joins, no stream is newly pended, and the drain stays. -/
theorem DrainedLaw.reporter (hs : DrainedLaw s) {r : Reporter} (hd : r.drain = s.rw.drain)
    (hqueue : ∀ st, r.queue.countP (halfOf st) = s.rw.queue.countP (halfOf st))
    (hps : r.pendingSet = s.rw.pendingSet)
    (hp : ∀ p, r.publication = some p → p.closing = true → ∃ q, s.rw.publication = some q ∧ q.closing = true) :
    DrainedLaw { s with rw := r } := by
  rw [drainedLaw_iff] at hs ⊢
  obtain ⟨hh, hq, hc⟩ := hs
  have hpend : ∀ st, ({ s with rw := r } : State).isPending st = s.isPending st := fun st => by
    simp only [State.isPending, hps]
  refine ⟨hh.mono id (fun st => ?_) (fun st _ h => (hpend st).trans h), ?_, fun p h hcl => ?_⟩
  · simp only [State.unended, hqueue st]; exact id
  · exact hq.mono id (fun _ => (pastQuiesce_congr (s := s) (t := { s with rw := r }) rfl hd).mp)
      (fun _ => (drained_congr (s := s) (t := { s with rw := r }) rfl hd).mp) (fun _ => id) (fun _ => id)
      fun st _ _ h => (hpend st).trans h
  · obtain ⟨q, hq, hqc⟩ := hp p h hcl
    exact hd.trans (hc q hq hqc)

theorem countP_halfOf_append {l made : List Txn} (h : ∀ x ∈ made, x.deviceHalfStream? = none) (st : StreamId) :
    (l ++ made).countP (halfOf st) = l.countP (halfOf st) := by
  have : made.countP (halfOf st) = 0 := List.countP_eq_zero.mpr fun x hx => by simp [halfOf, h x hx]
  rw [List.countP_append, this, Nat.add_zero]

/-- Transactions that are no device halves join the queue, and nothing else that the law reads changes. -/
theorem DrainedLaw.joined (hs : DrainedLaw s) {r : Reporter} {made : List Txn} (hd : r.drain = s.rw.drain)
    (hqueue : r.queue = s.rw.queue ++ made) (hm : ∀ x ∈ made, x.deviceHalfStream? = none)
    (hps : r.pendingSet = s.rw.pendingSet)
    (hp : ∀ p, r.publication = some p → p.closing = true → ∃ q, s.rw.publication = some q ∧ q.closing = true) :
    DrainedLaw { s with rw := r } :=
  hs.reporter hd (fun st => by rw [hqueue]; exact countP_halfOf_append hm st) hps hp

theorem deviceHalfStream_of_isSummary {x : Txn} (h : x.isSummary = true) : x.deviceHalfStream? = none := by
  cases x with
  | summaryWrite _ _ => rfl
  | _ => exact nomatch h

theorem deviceHalfStream_laneStatus {x : Txn} (h : x ∈ allLanes.map (laneStatusWrite s)) :
    x.deviceHalfStream? = none := by
  obtain ⟨k, _, rfl⟩ := List.mem_map.mp h
  rfl

theorem DrainedLaw.initialSummary (hs : DrainedLaw s) : DrainedLaw (initialSummary s) := by
  obtain h | ⟨_, x, hx, h⟩ := initialSummary_cases s <;> rw [h]
  · exact hs
  · exact hs.joined rfl rfl (fun y hy => List.mem_singleton.mp hy ▸ deviceHalfStream_of_isSummary hx) rfl
      fun p h hc => ⟨p, h, hc⟩

/-- A change of Device Control that leaves the device state. -/
theorem DrainedLaw.control (hs : DrainedLaw s) {c : Control} (hd : c.device = s.dc.device) :
    DrainedLaw { s with dc := c } := by
  rw [drainedLaw_iff] at hs ⊢
  obtain ⟨hh, hq, hc⟩ := hs
  exact ⟨hh.mono (counts_congr (s := s) (t := { s with dc := c }) hd).mp (fun _ => id) fun _ _ => id,
    hq.mono (quieted_congr (s := s) (t := { s with dc := c }) hd).mp
      (fun _ => (pastQuiesce_congr (s := s) (t := { s with dc := c }) hd rfl).mp)
      (fun _ => (drained_congr (s := s) (t := { s with dc := c }) hd rfl).mp) (fun _ => id) (fun _ => id)
      fun _ _ _ => id, hc⟩

/-- A change of the device state among OFF, LOADING and QUIET that quiets no part that was not. -/
theorem DrainedLaw.rest (hql : QuietLaw s) (hs : DrainedLaw s) {c : Control} (hcounts : s.counts)
    (hd : s.dc.device ≠ .quiescing) (hq : ({ s with dc := c } : State).quieted → s.quieted) :
    DrainedLaw { s with dc := c } := by
  rw [drainedLaw_iff] at hs ⊢
  obtain ⟨hh, hqd, hc⟩ := hs
  exact ⟨hh.mono (fun _ => hcounts) (fun _ => id) (fun _ _ => id),
    hqd.mono hq (fun _ _ => .inl hd) (fun _ _ => .inl hd) (fun _ => id) (fun _ => id) fun _ _ _ => id,
    fun p hp hcl => by simp [hql.noClosing hd hp] at hcl⟩

theorem drainedLaw_failLoad (hql : QuietLaw s) (hs : DrainedLaw s) (bit : BitVec 4) :
    DrainedLaw (failLoad bit s) := by
  unfold failLoad
  split
  case h_1 l hd =>
    refine hs.rest hql (by simp [State.counts, hd]) (by simp [hd]) fun hq => .inr (.inr ⟨l, hd, ?_⟩)
    cases ho : l.origin with
    | off => simp [State.quieted, State.setDevice, ho, LoadOrigin.state] at hq
    | quiet => rfl
  all_goals exact hs

/-! ### Entry to RUNNING -/

theorem drainedLaw_running (hd : s.dc.device = .running) (hh : HalfLaw s)
    (hc : ∀ p, s.rw.publication = some p → p.closing = false) : DrainedLaw s :=
  (drainedLaw_iff s).mpr ⟨hh, quieted_of_not_quieted (by simp [State.quieted, hd]),
    fun p hp hcl => by simp [hc p hp] at hcl⟩

theorem halfLaw_enterRunning (hs : HalfLaw s) (hc : s.counts) (o : LoadOrigin) (n : Snapshot) :
    HalfLaw (enterRunning o n s) := by
  cases o with
  | off =>
    refine hs.mono (fun _ => hc) (fun st => ?_) fun _ _ => id
    have h1 : ∀ x ∈ allStreams.map (initialStatusWrite (startRunning n s)), x.deviceHalfStream? = none := fun x hx => by
      obtain ⟨y, _, rfl⟩ := List.mem_map.mp hx; rfl
    show List.countP _ ((s.rw.queue ++ _) ++ _) + _ ≠ 0 → _
    rw [countP_halfOf_append (fun x => deviceHalfStream_laneStatus), countP_halfOf_append h1]
    exact id
  | quiet =>
    obtain ⟨x, _, h⟩ := resumeFromQuiet_cases (startRunning n s)
    rw [halfLaw_iff]
    intro _ st _
    show (resumeFromQuiet (startRunning n s)).isPending st = true
    rw [h]
    simp [State.isPending]

theorem drainedLaw_headerReadOk (hql : QuietLaw s) (hs : DrainedLaw s) (data : Read128) :
    DrainedLaw (headerReadOk data s) := by
  unfold headerReadOk
  split
  case h_1 l hd =>
    have hcounts : s.counts := by simp [State.counts, hd]
    dsimp only
    split
    · refine hs.rest hql hcounts (by simp [hd]) fun hq => .inr (.inr ⟨l, hd, ?_⟩)
      simpa [State.quieted] using hq
    · split
      · refine drainedLaw_running (by rw [enterRunning_dc])
          (halfLaw_enterRunning ((drainedLaw_iff s).mp hs).1 hcounts _ _) fun p hp => ?_
        rw [enterRunning_publication] at hp
        exact hql.noClosing (by simp [hd]) hp
      · exact drainedLaw_failLoad hql hs _
  all_goals exact hs

/-! ### The end of a Summary write -/

theorem notifyPublished_rw (e : StreamId × Option Addr) (s : State) : (notifyPublished e s).rw = s.rw := by
  have hask : ∀ x : State, (askJob e.1 .link x).rw = x.rw := fun x => by rw [askJob_eq]
  unfold notifyPublished
  split
  · split
    · dsimp only
      split
      · rfl
      · exact hask _
    · rfl
  · rfl

theorem published_rw (s : State) (p : Publication) :
    (s.published p).rw = { s.rw with reportNumber := s.rw.reportNumber + 1, publication := none } := by
  have hfold : ∀ (l : List (StreamId × Option Addr)) (x : State),
      (l.foldl (fun s e => notifyPublished e s) x).rw = x.rw := fun l => by
    induction l with
    | nil => exact fun _ => rfl
    | cons e l ih => exact fun x => (ih (notifyPublished e x)).trans (notifyPublished_rw e x)
  exact hfold p.batch _

theorem drainedLaw_summaryOk (hql : QuietLaw s) (hs : DrainedLaw s) : DrainedLaw (summaryOk s) := by
  obtain ⟨h, _⟩ | ⟨_, _, _, h⟩ | ⟨hw, _, p, hp, h⟩ := summaryOk_cases s <;> rw [h]
  · exact hs
  · exact hs.reporter rfl (fun _ => rfl) rfl fun p h hc => ⟨p, h, hc⟩
  · have h1 : DrainedLaw { s with rw := { s.rw with reportNumber := s.rw.reportNumber + 1, publication := none } } :=
      hs.reporter rfl (fun _ => rfl) rfl fun q hq => nomatch hq
    have hq1 : QuietLaw { s with rw := { s.rw with reportNumber := s.rw.reportNumber + 1, publication := none } } :=
      hql.reporter rfl fun q hq => nomatch hq
    have h2 : DrainedLaw (s.published p) :=
      h1.orderly hq1 (published_orderly s p) fun _ _ => .of_rw (published_rw s p)
    rw [completePublication_eq]
    split
    · next hc =>
      obtain ⟨hd, _⟩ := hql.2 p hp hc
      have hcl : s.rw.drain = .closing := ((drainedLaw_iff s).mp hs).2.2 p hp hc
      have hdev : (s.published p).dc.device = .quiescing := (published_orderly s p).device.trans hd
      have hdr : (s.published p).rw.drain = .closing := by rw [published_rw]; exact hcl
      rw [drainedLaw_iff] at h2 ⊢
      obtain ⟨hh, hq, _⟩ := h2
      refine ⟨hh.mono (fun _ => by simp [State.counts, hdev]) (fun _ => id) (fun _ _ => id),
        hq.mono (fun _ => .inl hdev) (fun _ _ => .inr (by simp [hdr])) (fun _ _ => .inr (.inr hdr)) (fun _ => id)
          (fun _ => id) (fun _ _ _ => id), fun q hq => ?_⟩
      rw [show _ = none from congrArg Reporter.publication (published_rw s p)] at hq
      simp at hq
    · exact h2

theorem drainedLaw_of_handed {x : Txn} (h : Handed x s t) (hql : QuietLaw s) (hs : DrainedLaw s)
    (hx : s.counts → ∀ st, x.deviceHalfStream? = some st → s.isPending st = true) : DrainedLaw t := by
  cases h with
  | orderly h hst =>
    refine hs.orderly hql h fun hc hw => hst hc fun hw' => ?_
    obtain hw | ⟨hq, hd⟩ := hw
    · exact absurd hw' hw
    · cases x with
      | deviceHalfWrite st d a h =>
        have h1 := hx (counts_of_quieted hq) st rfl
        simp [((drainedLaw_iff s).mp hs).2.1.pending hq hd st] at h1
      | _ => rfl
  | streamStatus =>
    obtain ⟨h, _⟩ | ⟨n, made, _, h⟩ | ⟨_, batch, n, closing, hp, ⟨_, y, hy, h⟩ | h⟩ := streamStatusOk_cases s <;> rw [h]
    · exact hs
    · exact DrainedLaw.initialSummary (hs.reporter rfl (fun _ => rfl) rfl fun p h hc => ⟨p, h, hc⟩)
    · refine hs.joined rfl rfl (fun z hz => List.mem_singleton.mp hz ▸ deviceHalfStream_of_isSummary hy) rfl
        fun p h hc => ⟨_, hp, ?_⟩
      obtain rfl := Option.some.inj h
      exact hc
    · refine hs.reporter rfl (fun _ => rfl) rfl fun p h hc => ⟨_, hp, ?_⟩
      obtain rfl := Option.some.inj h
      exact hc
  | laneStatus =>
    obtain ⟨h, _⟩ | h := laneStatusOk_cases s <;> rw [h]
    · exact hs
    · exact DrainedLaw.initialSummary (hs.reporter rfl (fun _ => rfl) rfl fun p h hc => ⟨p, h, hc⟩)
  | summary => exact drainedLaw_summaryOk hql hs
  | header _ data => exact drainedLaw_headerReadOk hql hs data
  | headerFault => exact drainedLaw_failLoad hql hs _
  | broken =>
    rw [drainedLaw_iff]
    exact ⟨halfLaw_of_not_counts (by simp [State.counts, enterBroken]),
      quieted_of_not_quieted (by simp [State.quieted, enterBroken]), fun p hp => nomatch hp⟩

end

end Sys2Proof.Machine

/-! PROOFS. The drained law over the commands of Device Control, of the port and of the drain. -/

namespace Sys2Proof.Machine

/-! ### A grant -/

section
variable {s t : State}

theorem request_of_eligible {c : Client} {x : Txn} (h : eligible c s = some x) :
    request c s = some x ∧ grantsAllowed s.dc.device = true := by
  unfold eligible at h
  split at h
  · simp at h
  · next hr =>
    split at h
    · next hc => exact ⟨Option.some.inj h ▸ hr, hc.1⟩
    · simp at h

theorem kind_of_laneRequest {k : Lane} {x : Txn} (h : laneRequest k s = some x) :
    (∃ a f slot read, x = .slotRead k a ∧ s.lw k = .searching f slot read false)
    ∨ ∃ a b f p, x = .dataWrite k a b ∧ s.lw k = .placing f p := by
  unfold laneRequest at h
  split at h
  case h_1 f slot read hl =>
    obtain ⟨o, _, rfl⟩ := Option.map_eq_some_iff.mp h
    exact .inl ⟨_, f, slot, read, rfl, hl⟩
  case h_2 f p hl =>
    split at h
    · obtain ⟨w, _, rfl⟩ := Option.map_eq_some_iff.mp h
      exact .inr ⟨_, _, f, p, rfl, hl⟩
    · simp at h
  all_goals simp at h

/-- The walker presents a header read in LOADING, and else the read of the job in hand, not yet issued. -/
theorem kind_of_walkerRequest {x : Txn} (h : walkerRequest s = some x) :
    (x.isHeaderRead = true ∧ ∃ l, s.dc.device = .loading l ∧ l.issued = false)
    ∨ (x.isJobRead = true ∧ (∀ l, s.dc.device ≠ .loading l)
      ∧ ∃ j, s.walker.inHand = some j ∧ j.stage.readIssued = false ∧ j.stage.issue.readIssued = true) := by
  unfold walkerRequest at h
  split at h
  case h_1 l hd =>
    split at h
    · simp at h
    · next hi => obtain rfl := Option.some.inj h; exact .inl ⟨rfl, l, hd, by simpa using hi⟩
  all_goals
    next hd =>
    refine .inr ?_
    split at h
    · simp at h
    · next j hj =>
      split at h
      case h_1 hs | h_2 hs | h_3 hs =>
        obtain rfl := Option.some.inj h
        exact ⟨rfl, by simp [hd], j, hj, by simp [hs, JobStage.readIssued],
          by simp [hs, JobStage.issue, JobStage.readIssued]⟩
      all_goals simp at h

theorem request_cases {c : Client} {x : Txn} (h : request c s = some x) :
    (∃ k, laneRequest k s = some x) ∨ walkerRequest s = some x ∨ s.rw.queue.head? = some x := by
  unfold request at h
  split at h
  · exact .inl ⟨_, h⟩
  · split at h
    · exact .inr (.inl h)
    · exact .inr (.inr h)

/-- A device half that is presented stands in the Report Writer's queue. -/
theorem mem_queue_of_request {c : Client} {x : Txn} (h : request c s = some x) {st : StreamId}
    (hx : x.deviceHalfStream? = some st) : x ∈ s.rw.queue := by
  obtain ⟨k, h⟩ | h | h := request_cases h
  · obtain ⟨_, _, _, _, rfl, _⟩ | ⟨_, _, _, _, rfl, _⟩ := kind_of_laneRequest h <;> exact nomatch hx
  · obtain ⟨hk, _⟩ | ⟨hk, _⟩ := kind_of_walkerRequest h
    · cases x with
      | deviceHalfWrite => exact nomatch hk
      | _ => exact nomatch hx
    · cases x with
      | deviceHalfWrite => exact nomatch hk
      | _ => exact nomatch hx
  · exact List.mem_of_mem_head? h

/-- Where the part is calm, the issue of a request leaves the Report Writer alone, but for its own. -/
theorem clientIssued_calm (hc : Calm s) {x : Txn} (hx : x.client ≠ reporterClient) :
    (clientIssued x s).rw = s.rw := by
  cases x with
  | slotRead k a => simp [clientIssued, hc.idle k]
  | dataWrite k a b => simp [clientIssued, hc.idle k]
  | anchorRead a | orderRead a | linkRead a => rfl
  | headerRead a => unfold clientIssued; dsimp only; split <;> rfl
  | _ => exact absurd rfl hx

/-- The state when a granted request has been placed in the table and at the issue point. -/
def State.placed (s : State) (p : MemoryPort) (x : Txn) : State :=
  { s with port := { p with
    table := p.table ++ [⟨x, s.now + BitVec.ofNat 64 (timeoutOf x { s with port := p })⟩], issuePoint := some x } }

theorem issue_eq (x : Txn) (p : MemoryPort) : issue x { s with port := p } = clientIssued x (s.placed p x) := rfl

/-- A granted transaction counts among those under way once it stands in the table. -/
theorem placed_unended {p : MemoryPort} {x : Txn} (hp : p.table = s.port.table) (q : Txn → Bool) :
    (s.placed p x).unended q = s.unended q + if q x = true then 1 else 0 := by
  simp only [State.unended, State.placed, hp, List.countP_append, List.countP_singleton]
  omega

/-- Of a queue's head that is issued from it nothing is counted twice. -/
theorem unended_tail {p : MemoryPort} {x : Txn} (hp : p.table = s.port.table) (hx : s.rw.queue.head? = some x)
    (q : Txn → Bool) : ({ s.placed p x with rw := { s.rw with queue := s.rw.queue.tail } } : State).unended q
      = s.unended q := by
  have hq : s.rw.queue = x :: s.rw.queue.tail := (List.cons_head?_tail (by exact hx)).symm
  have h1 : s.rw.queue.countP q = s.rw.queue.tail.countP q + if q x = true then 1 else 0 := by
    conv_lhs => rw [hq]
    exact List.countP_cons
  have h2 := placed_unended (s := s) (x := x) hp q
  simp only [State.unended, State.placed] at h2 ⊢
  omega

/-- A transaction that a client of the lanes or the walker presents is not the Report Writer's. -/
theorem client_of_request {c : Client} {x : Txn} (h : request c s = some x) :
    s.rw.queue.head? = some x ∨ x.client ≠ reporterClient := by
  obtain ⟨k, h⟩ | h | h := request_cases h
  · obtain ⟨_, _, _, _, rfl, _⟩ | ⟨_, _, _, _, rfl, _⟩ := kind_of_laneRequest h <;>
      exact .inr (laneClient_ne_reporterClient k)
  · refine .inr ?_
    obtain ⟨hk, _⟩ | ⟨hk, _⟩ := kind_of_walkerRequest h
    · cases x with
      | headerRead => exact walkerClient_ne_reporterClient
      | _ => exact nomatch hk
    · cases x with
      | anchorRead | orderRead | linkRead => exact walkerClient_ne_reporterClient
      | _ => exact nomatch hk
  · exact .inl h

theorem drainedLaw_placed (hs : DrainedLaw s) {c : Client} {x : Txn} {p : MemoryPort}
    (hp : p.table = s.port.table) (hreq : request c s = some x) : DrainedLaw (s.placed p x) := by
  rw [drainedLaw_iff] at hs ⊢
  obtain ⟨hh, hq, hc⟩ := hs
  refine ⟨hh.mono id (fun st hst => ?_) fun _ _ => id,
    hq.mono id (fun _ => id) (fun _ => id) (fun _ => id) (fun _ => id) fun _ _ _ => id, hc⟩
  rw [placed_unended hp] at hst
  split at hst
  · next hx =>
    rw [unended_ne_zero_iff]
    exact .inl ⟨x, mem_queue_of_request hreq (by simpa [halfOf] using hx), hx⟩
  · simpa using hst

theorem drainedLaw_grantOne (hql : QuietLaw s) (hs : DrainedLaw s) : DrainedLaw (grantOne s) := by
  obtain h | ⟨c, x, p, hx, hp, h⟩ := grantOne_cases s
  · rw [h]; exact hs
  · rw [h, issue_eq]
    have hreq := (request_of_eligible hx).1
    have hpl : DrainedLaw (s.placed p x) := drainedLaw_placed hs hp hreq
    have hqpl : QuietLaw (s.placed p x) := hql
    obtain ⟨hcl, hc⟩ | ⟨hr, hc⟩ | ⟨_, l, hd, hc⟩ := clientIssued_cases (s := s.placed p x) x
    · exact hpl.orderly hqpl hc fun hcalm _ => .of_rw (clientIssued_calm hcalm hcl)
    · have hhead := (client_of_request hreq).resolve_right (not_not.mpr hr)
      rw [hc]
      rw [drainedLaw_iff] at hs ⊢
      obtain ⟨hh, hq, hcl⟩ := hs
      refine ⟨hh.mono id (fun st hst => ?_) fun _ _ => id,
        hq.mono id (fun _ => id) (fun _ => id) (fun _ => id) (fun _ => id) fun _ _ _ => id, hcl⟩
      exact (unended_tail hp hhead (halfOf st)) ▸ hst
    · rw [hc]
      refine hpl.rest hqpl ?_ ?_ fun hq => .inr (.inr ⟨l, hd, ?_⟩)
      · simp [State.counts, hd]
      · simp [hd]
      · simpa [State.quieted] using hq

end

end Sys2Proof.Machine

/-! PROOFS. The drained law is kept by every move. -/

namespace Sys2Proof.Machine

section
variable {s t : State}

theorem isPending_iff_getElem (s : State) (st : StreamId) :
    s.isPending st = true ↔ s.rw.pendingSet[st.val] = true := Iff.rfl

/-- A stream that is not taken out of the pending set stays as it was. -/
theorem getElem_unpend (batch : List StreamId) (v : Vector Bool 24) (st : StreamId) :
    (unpend batch v)[st.val] = if st ∈ batch then false else v[st.val] := by
  induction batch generalizing v with
  | nil => rfl
  | cons x batch ih =>
    rw [show unpend (x :: batch) v = unpend batch (v.set x.val false) from rfl, ih]
    by_cases h : st ∈ batch
    · simp [h]
    · by_cases hx : st = x
      · simp [hx]
      · have hne : x.val ≠ st.val := fun he => hx (Fin.ext he.symm)
        simp [hx, Vector.getElem_set_ne _ _ hne]

theorem unended_halfOf_of_ready {st : StreamId} (h : st ∈ readyBatch s) : s.unended (halfOf st) = 0 := by
  simp only [readyBatch, readyStream, List.mem_filter, Bool.and_eq_true, Bool.not_eq_true',
    List.any_eq_false] at h
  obtain ⟨_, _, ⟨_, hq⟩, ht⟩ := h
  rw [State.unended, Nat.add_eq_zero_iff, List.countP_eq_zero, List.countP_eq_zero]
  exact ⟨hq, ht⟩

/-- The oldest transaction of its client leaves those under way. -/
theorem unended_removeOldest {c : Client} {d : Direction} {e : Entry} (h : oldest c d s = some e)
    (p : Txn → Bool) : s.unended p = (removeOldest c d s).unended p + if p e.txn = true then 1 else 0 := by
  obtain ⟨as, bs, hs, ht, -⟩ := removeOldest_table h
  simp only [State.unended, hs, ht, removeOldest_rw, List.countP_append, List.countP_cons]
  omega

theorem unended_removeOldest_le (c : Client) (d : Direction) (p : Txn → Bool) :
    (removeOldest c d s).unended p ≤ s.unended p :=
  Nat.add_le_add_left ((List.eraseP_sublist).countP_le) _

theorem drainedLaw_removeOldest (hs : DrainedLaw s) (c : Client) (d : Direction) :
    DrainedLaw (removeOldest c d s) := by
  rw [drainedLaw_iff] at hs ⊢
  obtain ⟨hh, hq, hc⟩ := hs
  refine ⟨hh.mono id (fun st hst h0 => hst ?_) fun _ _ => id,
    hq.mono id (fun _ => id) (fun _ => id) (fun _ => id) (fun _ => id) fun _ _ _ => id, hc⟩
  have := unended_removeOldest_le (s := s) c d (halfOf st)
  omega

/-- At reset nothing is under way. -/
theorem drainedLaw_of_off (hd : t.dc.device = .off) (hq : t.rw.queue = []) (ht : t.port.table = [])
    (hp : t.rw.publication = none) : DrainedLaw t := by
  rw [drainedLaw_iff]
  refine ⟨(halfLaw_iff t).mpr fun _ st h => ?_, quieted_of_not_quieted (by simp [State.quieted, hd]), fun p h => by
    simp [hp] at h⟩
  simp [State.unended, hq, ht] at h

theorem drainedLaw_beginPublication (hs : DrainedLaw s) : DrainedLaw (beginPublication s) := by
  obtain h | ⟨hw, hpub, _, h⟩ := beginPublication_cases s <;> rw [h]
  · exact hs
  · rw [drainedLaw_iff] at hs ⊢
    obtain ⟨hh, hq, _⟩ := hs
    have hcount : ∀ st, (s.rw.queue ++ (readyBatch s).map (streamStatusWrite s)).countP (halfOf st)
        = s.rw.queue.countP (halfOf st) := countP_halfOf_append fun x hx => by
      obtain ⟨y, _, rfl⟩ := List.mem_map.mp hx; rfl
    refine ⟨hh.mono id (fun st => ?_) (fun st hst hp => ?_),
      hq.mono id (fun _ => id) (fun _ => id) (fun _ => id) (fun _ => id) (fun st _ _ hp => ?_), fun p hp hc => ?_⟩
    · simp only [State.unended, hcount]; exact id
    · have hb : st ∉ readyBatch s := fun hb => hst (by
        simp only [State.unended, hcount]; exact unended_halfOf_of_ready hb)
      exact (getElem_unpend _ _ st).trans ((if_neg hb).trans hp)
    · refine (getElem_unpend _ _ st).trans ?_
      split
      · rfl
      · exact hp
    · obtain rfl := Option.some.inj hp
      simp at hc

theorem drainedLaw_of_move (h : Move s t) (hql : QuietLaw s) (hs : DrainedLaw s) : DrainedLaw t := by
  cases h with
  | orderly h hst => exact hs.orderly hql h fun hc _ => hst hc
  | boardLo v => unfold boardLoWrite; split <;> exact hs.control rfl
  | boardHi v => unfold boardHiWrite; split <;> exact hs.control rfl
  | enable =>
    unfold controlEnable
    split
    case h_1 hd =>
      exact hs.rest hql (by simp [State.counts, hd]) (by simp [hd]) fun hq => by
        simp [State.quieted, State.setDevice] at hq
    case h_2 hd => exact hs.rest hql (by simp [State.counts, hd]) (by simp [hd]) fun _ => .inr (.inl hd)
    all_goals exact hs.control rfl
  | quiesce =>
    unfold controlQuiesce
    split
    · next hd =>
      rw [drainedLaw_iff] at hs ⊢
      obtain ⟨hh, -, -⟩ := hs
      refine ⟨hh.mono (fun _ => by simp [State.counts, hd]) (fun _ => id) (fun _ _ => id),
        ⟨fun _ => rfl, fun _ hb => ?_, fun _ hb => ?_⟩, fun p hp hc => ?_⟩
      · rcases hb with hb | hb <;> exact absurd rfl hb
      · rcases hb with hb | hb | hb
        · exact absurd rfl hb
        all_goals exact nomatch hb
      · simp [hql.noClosing (by simp [hd]) hp] at hc
    · exact hs.control rfl
  | reset =>
    unfold controlReset
    split
    · exact hs.control rfl
    · rw [drainedLaw_iff]
      exact ⟨halfLaw_of_not_counts (by simp [State.counts, State.setResult, enterResetting]),
        quieted_of_not_quieted (by simp [State.quieted, State.setResult, enterResetting]), fun p hp => nomatch hp⟩
  | powerOn => exact drainedLaw_of_off rfl rfl rfl rfl
  | resetComplete =>
    unfold resetComplete
    split
    · exact drainedLaw_of_off rfl rfl rfl rfl
    · exact hs
  | grant => exact drainedLaw_grantOne hql hs
  | refresh =>
    obtain h | ⟨_, due, h | ⟨_, h⟩⟩ := refreshExpired_cases s <;> rw [h]
    · exact hs
    · exact hs.reporter rfl (fun _ => rfl) rfl fun p h hc => ⟨p, h, hc⟩
    · exact hs.joined rfl rfl (fun x => deviceHalfStream_laneStatus) rfl fun p h hc => ⟨p, h, hc⟩
  | publish => exact drainedLaw_beginPublication hs
  | quiescePoint =>
    obtain h | ⟨_, hn, _, hj, h⟩ := quiescePoint_cases s <;> rw [h]
    · exact hs
    · rw [drainedLaw_iff] at hs ⊢
      obtain ⟨hh, hq, hc⟩ := hs
      refine ⟨hh.mono id (fun _ => id) (fun _ _ => id), ⟨hq.queue, fun _ _ => hj, fun h hb => hq.pending h ?_⟩,
        fun p hp hcl => by simp [hql.noClosing_of_notBegun hn hp] at hcl⟩
      rcases hb with hb | hb | hb
      · exact .inl hb
      all_goals exact nomatch hb
  | drainRefresh =>
    obtain h | ⟨_, hdr, hp, hn, _, _, h⟩ := drainRefresh_cases s <;> rw [h]
    · exact hs
    · rw [drainedLaw_iff] at hs ⊢
      obtain ⟨hh, hq, _⟩ := hs
      refine ⟨hh.mono id (fun st => ?_) (fun _ _ => id),
        ⟨hq.queue, fun hqd _ => hq.inHand hqd (.inr (by simp [hdr])), fun _ _ => hp⟩, fun p hpub => ?_⟩
      · simp only [State.unended, countP_halfOf_append (fun x => deviceHalfStream_laneStatus)]; exact id
      · rw [show _ = none from hn] at hpub
        exact nomatch hpub
  | closing =>
    obtain h | ⟨_, hdr, _, _, x, hx, h⟩ := closingPublication_cases s <;> rw [h]
    · exact hs
    · rw [drainedLaw_iff] at hs ⊢
      obtain ⟨hh, hq, _⟩ := hs
      refine ⟨hh.mono id (fun st => ?_) (fun _ _ => id), ?_, fun _ _ _ => rfl⟩
      · simp only [State.unended, countP_halfOf_append fun y hy =>
          List.mem_singleton.mp hy ▸ deviceHalfStream_of_isSummary hx]
        exact id
      · exact hq.mono id (fun _ _ => .inr (by simp [hdr])) (fun _ _ => .inr (.inl hdr)) (fun _ => id) (fun _ => id)
          fun _ _ _ => id
  | @answered c d _ _ _ ho h hrw hu =>
    have hql' : QuietLaw (removeOldest c d s) := hql
    refine drainedLaw_of_handed hu (hql'.orderly h)
      ((drainedLaw_removeOldest hs c d).orderly hql' h fun _ _ => .of_rw hrw) fun hc st hx => ?_
    have hpend : s.isPending st = true := by
      refine (halfLaw_iff s).mp ((drainedLaw_iff s).mp hs).1 ((counts_congr h.device).mp hc) st fun h0 => ?_
      rw [unended_removeOldest ho, if_pos (by simpa [halfOf] using hx)] at h0
      omega
    simpa only [State.isPending, hrw] using hpend

end

end Sys2Proof.Machine

/-! PROOFS. The ledger (R34, R36, R56, R69, R136, R142, R145, R146, R181): for every kind of transaction that is
awaited at all, no more are under way than are awaited. -/

namespace Sys2Proof.Machine

/-! ### Kinds of transaction -/

/-- Who awaits the end of a transaction that is no device half. -/
inductive Kind where
  | lane (k : Lane)
  | jobRead
  | streamStatus
  | laneStatus
  | summary
  | headerRead
  deriving DecidableEq

def Kind.has : Kind → Txn → Bool
  | .lane k => Txn.ofLane k
  | .jobRead => Txn.isJobRead
  | .streamStatus => Txn.isStreamStatus
  | .laneStatus => Txn.isLaneStatus
  | .summary => Txn.isSummary
  | .headerRead => Txn.isHeaderRead

def Txn.kind? : Txn → Option Kind
  | .slotRead k _ | .dataWrite k _ _ | .metadataWrite k _ _ | .fillWrite k _ _ => some (.lane k)
  | .anchorRead _ | .orderRead _ | .linkRead _ => some .jobRead
  | .headerRead _ => some .headerRead
  | .deviceHalfWrite _ _ _ _ => none
  | .streamStatusWrite _ _ => some .streamStatus
  | .laneStatusWrite _ _ => some .laneStatus
  | .summaryWrite _ _ => some .summary

theorem has_iff {i : Kind} {x : Txn} : i.has x = true ↔ x.kind? = some i := by
  cases x <;> cases i <;> simp [Kind.has, Txn.kind?, Txn.ofLane, Txn.isJobRead, Txn.isStreamStatus,
    Txn.isLaneStatus, Txn.isSummary, Txn.isHeaderRead]

theorem blind_has (i : Kind) : Blind i.has := fun st x => by
  have h : (x.disownedBy st).kind? = x.kind? := by cases x <;> rfl
  rw [Bool.eq_iff_iff, has_iff, has_iff, h]

theorem has_of_no_half {x : Txn} (h : x.deviceHalfStream? = none) : ∃ i : Kind, i.has x = true := by
  cases x with
  | deviceHalfWrite => exact nomatch h
  | _ => exact ⟨_, has_iff.mpr rfl⟩

/-- How many a single transaction counts for. -/
theorem countP_has_singleton (i : Kind) (x : Txn) : [x].countP i.has = if x.kind? = some i then 1 else 0 := by
  rw [List.countP_singleton]
  simp only [has_iff]

/-- Transactions all of one kind count for that kind alone. -/
theorem countP_has_of_kind {l : List Txn} {j : Kind} (h : ∀ x ∈ l, x.kind? = some j) (i : Kind) :
    l.countP i.has = if i = j then l.length else 0 := by
  split
  · next he => exact List.countP_eq_length.mpr fun x hx => has_iff.mpr (he ▸ h x hx)
  · next he =>
    refine List.countP_eq_zero.mpr fun x hx hi => he ?_
    exact Option.some.inj ((has_iff.mp hi).symm.trans (h x hx))

/-- How many transactions of a kind are awaited. -/
def State.awaits (s : State) : Kind → Nat
  | .lane k => (s.lw k).awaited
  | .jobRead => s.walker.readAwaited
  | .streamStatus => s.rw.statusAwaited
  | .laneStatus => s.rw.laneUnanswered
  | .summary => s.rw.summaryAwaited
  | .headerRead => match s.dc.device with
    | .loading l => if l.issued then 1 else 0
    | _ => 0

/-- No more are under way than are awaited, `gone` having just ended and being awaited still; where the part is not
working these are header reads alone; and the drain's last steps wait for what they must. -/
structure Ledger (gone : List Txn) (s : State) : Prop where
  counts : ∀ i : Kind, s.unended i.has + gone.countP i.has ≤ s.awaits i
  queue : ¬ s.working → s.rw.queue = []
  inHand : ¬ s.working → s.walker.inHand = none
  table : ¬ s.working → ∀ e ∈ s.port.table, e.txn.isHeaderRead = true
  closing : s.working → ∀ p, s.rw.publication = some p → p.closing = true → s.rw.laneUnanswered = 0
  drained : s.dc.device = .quiescing → s.rw.drain = .laneRefresh ∨ s.rw.drain = .closing → s.rw.initial = .complete

theorem ledgerLaw_iff (s : State) : LedgerLaw s ↔ (s.counts → Ledger [] s) := by
  refine forall_congr' fun _ => ⟨fun ⟨hr, hh, hw⟩ => ?_, fun h => ⟨fun hw => ⟨h.queue hw, h.inHand hw, h.table hw⟩, ?_,
    fun hw => ⟨fun k => h.counts (.lane k), ?_, h.counts .streamStatus, h.counts .laneStatus, h.counts .summary,
      h.closing hw, h.drained⟩⟩⟩
  · have hhead : s.unended Txn.isHeaderRead ≤ s.awaits .headerRead := hh
    refine ⟨fun i => ?_, fun h => (hr h).1, fun h => (hr h).2.1, fun h => (hr h).2.2, fun h => (hw h).2.2.2.2.2.1,
      fun hd => (hw (.inr hd)).2.2.2.2.2.2 hd⟩
    by_cases hwk : s.working
    · obtain ⟨h1, h2, h3, h4, h5, -⟩ := hw hwk
      cases i with
      | lane k => exact h1 k
      | jobRead => exact h2
      | streamStatus => exact h3
      | laneStatus => exact h4
      | summary => exact h5
      | headerRead => exact hhead
    · obtain ⟨hq, -, ht⟩ := hr hwk
      by_cases hi : i = .headerRead
      · exact hi ▸ hhead
      · have h0 : s.port.table.countP (fun e => i.has e.txn) = 0 := List.countP_eq_zero.mpr fun e he h => hi (by
          have h2 := has_iff (i := .headerRead).mp (ht e he)
          exact Option.some.inj ((has_iff.mp h).symm.trans h2))
        simp [State.unended, hq, h0]
  · exact h.counts .headerRead
  · exact h.counts .jobRead

end Sys2Proof.Machine

/-! PROOFS. The ledger over orderly operations and the moves of the Report Writer. -/

namespace Sys2Proof.Machine

section
variable {s t : State} {gone gone' : List Txn}

theorem working_congr (hd : t.dc.device = s.dc.device) : t.working ↔ s.working := by
  simp only [State.working, hd]

theorem counts_of_working (h : s.working) : s.counts := by
  rcases h with h | h <;> simp [State.counts, h]

theorem settled_of_not_working (hc : s.counts) (hw : ¬ s.working) : s.settled := by
  cases hd : s.dc.device <;> simp_all [State.counts, State.working, State.settled]

/-- A state in which as little is under way as it awaits, kind by kind, taken from another. -/
theorem Ledger.counts_mono (hs : Ledger gone s)
    (h : ∀ i : Kind, t.unended i.has + gone'.countP i.has + s.awaits i
      ≤ s.unended i.has + gone.countP i.has + t.awaits i) (i : Kind) :
    t.unended i.has + gone'.countP i.has ≤ t.awaits i := by
  have := hs.counts i
  have := h i
  omega

/-- Of a working state the law asks for the counts and the order of the drain. -/
theorem ledger_of_working (hw : t.working) (hc : ∀ i : Kind, t.unended i.has + gone.countP i.has ≤ t.awaits i)
    (hcl : ∀ p, t.rw.publication = some p → p.closing = true → t.rw.laneUnanswered = 0)
    (hd : t.dc.device = .quiescing → t.rw.drain = .laneRefresh ∨ t.rw.drain = .closing → t.rw.initial = .complete) :
    Ledger gone t :=
  ⟨hc, absurd hw, absurd hw, absurd hw, fun _ => hcl, hd⟩

/-- Of a state that is not working it asks that header reads alone are under way. -/
theorem ledger_of_resting (hw : ¬ t.working) (hc : ∀ i : Kind, t.unended i.has + gone.countP i.has ≤ t.awaits i)
    (hq : t.rw.queue = []) (hj : t.walker.inHand = none) (ht : ∀ e ∈ t.port.table, e.txn.isHeaderRead = true) :
    Ledger gone t :=
  ⟨hc, fun _ => hq, fun _ => hj, fun _ => ht, fun h => absurd h hw, fun h => absurd (.inr h) hw⟩

/-- What ended is no longer counted. -/
theorem Ledger.forget (hs : Ledger gone s) : Ledger [] s :=
  ⟨fun i => (Nat.le_add_right _ _).trans (hs.counts i), hs.queue, hs.inHand, hs.table, hs.closing, hs.drained⟩

/-- How much an ended transaction was awaited. -/
def Ack.of (a : Ack) : Kind → Nat
  | .lane k => a.lane k
  | .jobRead => a.job
  | _ => 0

@[simp] theorem of_nothing (i : Kind) : Ack.nothing.of i = 0 := by cases i <;> rfl

theorem ack_of (x : Txn) (i : Kind) : x.ack.of i ≤ [x].countP i.has := by
  rw [countP_has_singleton]
  cases x <;> cases i <;> simp [Txn.ack, Ack.of, Ack.lane, Ack.job, Txn.kind?]

/-- An orderly operation makes no transaction but for commits, which their lane awaits. -/
theorem Orderly.ledger {a : Ack} (h : Orderly a s t) (i : Kind) :
    t.unended i.has + s.awaits i ≤ s.unended i.has + t.awaits i + a.of i := by
  obtain ⟨made, hm, hu⟩ := h.unended
  by_cases hl : ∃ k, i = .lane k
  · obtain ⟨k, rfl⟩ := hl
    have h1 := h.lanes k
    have h2 := h.table _ (blind_has (.lane k))
    simp only [State.unended, Kind.has, State.awaits, Ack.of] at h2 ⊢
    omega
  · have h0 : made.countP i.has = 0 := List.countP_eq_zero.mpr fun x hx hi => by
      have hk := hm.kinds x hx
      have hi := has_iff.mp hi
      cases x with
      | deviceHalfWrite => exact nomatch hi
      | metadataWrite k | fillWrite k => exact hl ⟨k, (Option.some.inj hi).symm⟩
      | _ => simp [Txn.isDeviceHalf, Txn.commitLane?] at hk
    have h1 := hu _ (blind_has i)
    have h2 : s.awaits i ≤ t.awaits i + a.of i := by
      cases i with
      | lane k => exact absurd ⟨k, rfl⟩ hl
      | jobRead => exact h.reads
      | streamStatus => simp only [State.awaits, Reporter.statusAwaited, h.initial, h.publication]; exact Nat.le_add_right _ _
      | laneStatus => simp only [State.awaits, h.laneUnanswered]; exact Nat.le_add_right _ _
      | summary => simp only [State.awaits, Reporter.summaryAwaited, h.initial, h.publication]; exact Nat.le_add_right _ _
      | headerRead => simp only [State.awaits, h.device]; exact Nat.le_add_right _ _
    omega

theorem Orderly.table_nil {a : Ack} (h : Orderly a s t) (ht : s.port.table = []) : t.port.table = [] := by
  have := h.table (fun _ => true) fun _ _ => rfl
  simpa [ht] using this

theorem calm_of_not_working (hc : s.counts) (hql : QuietLaw s) (hw : ¬ s.working) : Calm s :=
  calm_of_settled hql (settled_of_not_working hc hw) fun h => absurd h hw

theorem Ledger.orderly {a : Ack} (hs : Ledger gone s) (h : Orderly a s t)
    (hg : ∀ i, a.of i + gone'.countP (Kind.has i) ≤ gone.countP i.has)
    (hst : ¬ s.working → Still s t) : Ledger gone' t := by
  have hw := working_congr h.device
  refine ⟨fun i => ?_, fun hn => ?_, fun hn => ?_, fun hn e he => ?_, fun hn p hp => ?_, fun hd hdr => ?_⟩
  · have h1 := h.ledger i
    have h2 := hs.counts i
    have h3 := hg i
    omega
  · rw [hw] at hn
    exact (hst hn).queue.trans (hs.queue hn)
  · rw [hw] at hn
    exact h.handStays (fun hr => hn (.inl hr)) (hs.inHand hn)
  · rw [hw] at hn
    have h0 : s.port.table.countP (fun e => !e.txn.isHeaderRead) = 0 := List.countP_eq_zero.mpr fun e he => by
      simp [hs.table hn e he]
    rw [← h.table (fun x => !x.isHeaderRead) fun st x => congrArg (!·) (blind_has .headerRead st x),
      List.countP_eq_zero] at h0
    simpa using h0 e he
  · rw [hw] at hn
    rw [h.publication] at hp
    rw [h.laneUnanswered]
    exact hs.closing hn p hp
  · rw [h.device] at hd
    rw [h.drain] at hdr
    rw [h.initial]
    exact hs.drained hd hdr

/-! ### Moves of the Report Writer -/

/-- How many transactions of a kind the Report Writer awaits. -/
def Reporter.awaits (r : Reporter) : Kind → Nat
  | .streamStatus => r.statusAwaited
  | .laneStatus => r.laneUnanswered
  | .summary => r.summaryAwaited
  | .lane _ | .jobRead | .headerRead => 0

/-- What is awaited of a kind changes with the Report Writer as what it awaits does. -/
theorem awaits_setReporter (r : Reporter) (i : Kind) :
    ({ s with rw := r } : State).awaits i + s.rw.awaits i = s.awaits i + r.awaits i := by
  cases i with
  | streamStatus | laneStatus | summary => exact Nat.add_comm _ _
  | lane | jobRead | headerRead => rfl

/-- The Report Writer's next state, transactions `made` having joined its queue. -/
theorem Ledger.reporter (hw : s.working) (hs : Ledger gone s) {r : Reporter} {made : List Txn}
    (hq : r.queue = s.rw.queue ++ made)
    (hc : ∀ i : Kind, made.countP i.has + gone'.countP i.has + s.rw.awaits i ≤ gone.countP i.has + r.awaits i)
    (hcl : ∀ p, r.publication = some p → p.closing = true → r.laneUnanswered = 0)
    (hd : s.dc.device = .quiescing → r.drain = .laneRefresh ∨ r.drain = .closing → r.initial = .complete) :
    Ledger gone' { s with rw := r } := by
  refine ledger_of_working hw (fun i => ?_) hcl hd
  have h1 := hs.counts i
  have h2 := hc i
  have h3 : ({ s with rw := r } : State).unended i.has = s.unended i.has + made.countP i.has := by
    simp only [State.unended, hq, List.countP_append]
    omega
  have h4 := awaits_setReporter (s := s) r i
  omega

theorem laneStatus_kind {x : Txn} (h : x ∈ allLanes.map (laneStatusWrite s)) : x.kind? = some .laneStatus := by
  obtain ⟨k, _, rfl⟩ := List.mem_map.mp h
  rfl

theorem kind_of_isSummary {x : Txn} (h : x.isSummary = true) : x.kind? = some .summary := has_iff (i := .summary).mp h

theorem countP_laneStatus (i : Kind) : (allLanes.map (laneStatusWrite s)).countP i.has
    = if i = .laneStatus then 12 else 0 := countP_has_of_kind (fun _ => laneStatus_kind) i

theorem countP_summary {x : Txn} (h : x.isSummary = true) (i : Kind) : [x].countP i.has
    = if i = .summary then 1 else 0 :=
  countP_has_of_kind (fun _ hy => List.mem_singleton.mp hy ▸ kind_of_isSummary h) i

theorem Ledger.initialSummary (hw : s.working) (hs : Ledger gone s) : Ledger gone (initialSummary s) := by
  obtain h | ⟨hi, x, hx, h⟩ := initialSummary_cases s <;> rw [h]
  · exact hs
  · refine hs.reporter hw rfl (fun i => ?_) (hs.closing hw) fun hd hdr => ?_
    · rw [countP_summary hx]
      cases i <;> simp [Reporter.awaits, Reporter.statusAwaited, Reporter.summaryAwaited, hi]
      omega
    · have := hs.drained hd hdr
      simp [hi] at this

theorem ledger_streamStatusOk {x : Txn} (hx : x.isStreamStatus = true) (hs : Ledger [x] s) :
    Ledger [] (streamStatusOk s) := by
  have hk : ∀ i : Kind, [x].countP i.has = if i = .streamStatus then 1 else 0 := fun i =>
    countP_has_of_kind (fun _ hy => List.mem_singleton.mp hy ▸ has_iff (i := .streamStatus).mp hx) i
  have hcount := hs.counts .streamStatus
  rw [hk] at hcount
  by_cases hw : s.working
  · obtain ⟨h, _⟩ | ⟨n, made, hi, h⟩ | ⟨hi, batch, n, closing, hp, ⟨hn, y, hy, h⟩ | h⟩ := streamStatusOk_cases s <;> rw [h]
    · exact hs.forget
    · have hd : ∀ {P : Prop}, s.dc.device = .quiescing → s.rw.drain = .laneRefresh ∨ s.rw.drain = .closing → P :=
        fun hd hdr => by simpa [hi] using hs.drained hd hdr
      refine Ledger.initialSummary hw (hs.reporter hw (made := []) (by simp) (fun i => ?_) (hs.closing hw) hd)
      rw [hk]
      cases made <;> cases i <;>
        simp [State.awaits, Reporter.awaits, Reporter.statusAwaited, Reporter.summaryAwaited, hi] at hcount ⊢
      omega
    · refine hs.reporter hw rfl (fun i => ?_) (fun p hpub hc => ?_) fun _ _ => hi
      · rw [hk, countP_summary hy]
        cases i <;> simp [State.awaits, Reporter.awaits, Reporter.statusAwaited, Reporter.summaryAwaited, hi, hp] at hcount ⊢
        omega
      · obtain rfl := Option.some.inj hpub
        exact hs.closing hw _ hp hc
    · refine hs.reporter hw (made := []) (by simp) (fun i => ?_) (fun p hpub hc => ?_) fun _ _ => hi
      · rw [hk]
        cases i <;> simp [State.awaits, Reporter.awaits, Reporter.statusAwaited, Reporter.summaryAwaited, hi, hp] at hcount ⊢
        omega
      · obtain rfl := Option.some.inj hpub
        exact hs.closing hw _ hp hc
  · rw [show streamStatusOk s = s from if_neg hw]
    exact hs.forget

theorem ledger_laneStatusOk {x : Txn} (hx : x.isLaneStatus = true) (hs : Ledger [x] s) :
    Ledger [] (laneStatusOk s) := by
  have hk : ∀ i : Kind, [x].countP i.has = if i = .laneStatus then 1 else 0 := fun i =>
    countP_has_of_kind (fun _ hy => List.mem_singleton.mp hy ▸ has_iff (i := .laneStatus).mp hx) i
  by_cases hw : s.working
  · obtain ⟨_, hn⟩ | h := laneStatusOk_cases s
    · exact absurd hw hn
    · rw [h]
      refine Ledger.initialSummary hw (hs.reporter hw (made := []) (by simp) (fun i => ?_) (fun p hp hc => ?_) hs.drained)
      · rw [hk]
        cases i <;> simp [Reporter.awaits, Reporter.statusAwaited, Reporter.summaryAwaited]
        omega
      · show s.rw.laneUnanswered - 1 = 0
        rw [hs.closing hw p hp hc]
  · rw [show laneStatusOk s = s from if_neg hw]
    exact hs.forget

/-! ### The end of a publication -/

/-- With nothing awaited, and the device halves' streams not pending, nothing is under way. -/
theorem nothing_under_way (hc : ∀ i : Kind, s.unended i.has = 0) (hh : HalvesPending s)
    (hp : ∀ st, s.isPending st = false) : s.rw.queue = [] ∧ s.port.table = [] := by
  have hno : ∀ x : Txn, (x ∈ s.rw.queue ∨ ∃ e ∈ s.port.table, e.txn = x) → False := fun x hx => by
    have hpos : ∀ p : Txn → Bool, p x = true → s.unended p ≠ 0 := fun p hpx => by
      rw [unended_ne_zero_iff]
      rcases hx with hx | ⟨e, he, rfl⟩
      · exact .inl ⟨x, hx, hpx⟩
      · exact .inr ⟨e, he, hpx⟩
    cases hst : x.deviceHalfStream? with
    | some st =>
      have := hh st (hpos (halfOf st) (by simp [halfOf, hst]))
      simp [hp st] at this
    | none =>
      obtain ⟨i, hi⟩ := has_of_no_half hst
      exact hpos i.has hi (hc i)
  exact ⟨List.eq_nil_iff_forall_not_mem.mpr fun x hx => hno x (.inl hx),
    List.eq_nil_iff_forall_not_mem.mpr fun e he => hno e.txn (.inr ⟨e, he, rfl⟩)⟩

theorem ledger_summaryOk {x : Txn} (hx : x.isSummary = true) (hql : QuietLaw s) (hdl : DrainedLaw s)
    (hs : Ledger [x] s) : Ledger [] (summaryOk s) := by
  have hk := countP_summary hx
  have hcount := hs.counts .summary
  rw [hk] at hcount
  obtain ⟨h, _⟩ | ⟨n, made, hi, h⟩ | ⟨hw, hi, p, hp, h⟩ := summaryOk_cases s
  · rw [h]; exact hs.forget
  · by_cases hw : s.working
    · rw [h]
      refine hs.reporter hw (made := []) (by simp) (fun i => ?_) (hs.closing hw) fun _ _ => rfl
      rw [hk]
      cases made <;> cases i <;>
        simp [State.awaits, Reporter.awaits, Reporter.statusAwaited, Reporter.summaryAwaited, hi] at hcount ⊢
    · rw [show summaryOk s = s from if_neg hw]
      exact hs.forget
  · have h1 : Ledger [] { s with rw := { s.rw with reportNumber := s.rw.reportNumber + 1, publication := none } } := by
      refine hs.reporter hw (made := []) (by simp) (fun i => ?_) (fun q hq => nomatch hq) hs.drained
      rw [hk]
      obtain ⟨batch, stage, closing⟩ := p
      cases stage <;> cases i <;>
        simp [State.awaits, Reporter.awaits, Reporter.statusAwaited, Reporter.summaryAwaited, hi, hp] at hcount ⊢
    have hpo := published_orderly s p
    have h2 : Ledger [] (s.published p) :=
      h1.orderly hpo (by simp) fun hn => absurd hw hn
    rw [h, completePublication_eq]
    split
    · next hc =>
      obtain ⟨hd, hb⟩ := hql.2 p hp hc
      rw [drainedLaw_iff] at hdl
      obtain ⟨hh, hq, hcl⟩ := hdl
      have hquieted : s.quieted := .inl hd
      have hidle : ∀ k, s.lw k = .idle := hql.idle (.inr (.inr (.inr ⟨hd, hb⟩)))
      have hhand := hq.inHand hquieted (.inr hb)
      have hpend := hq.pending hquieted (.inr (.inr (hcl p hp hc)))
      have h0 := hs.closing hw p hp hc
      have hall : ∀ i : Kind, s.unended i.has = 0 := fun i => by
        refine Nat.eq_zero_of_le_zero ((h1.counts i).trans (Nat.le_of_eq ?_))
        cases i with
        | lane k => exact congrArg Writer.awaited (hidle k)
        | jobRead => simp [State.awaits, Walker.readAwaited, hhand]
        | streamStatus => simp [State.awaits, Reporter.statusAwaited, hi]
        | laneStatus => exact h0
        | summary => simp [State.awaits, Reporter.summaryAwaited, hi]
        | headerRead => simp [State.awaits, hd]
      obtain ⟨hqe, hte⟩ := nothing_under_way hall ((halfLaw_iff s).mp hh (counts_of_working hw)) hpend
      have hqe' : (s.published p).rw.queue = [] := by rw [published_rw]; exact hqe
      have hte' : (s.published p).port.table = [] := hpo.table_nil hte
      exact ledger_of_resting (by simp [State.working]) (fun i => by simp [State.unended, hqe', hte']) hqe'
        (hpo.handStays (by simp [hd]) hhand) (by simp [hte'])
    · exact h2

end

end Sys2Proof.Machine

/-! PROOFS. The ledger over loading, grants and every other move; the laws of quiet, drain and ledger settled. -/

namespace Sys2Proof.Machine

section
variable {s t : State} {gone : List Txn}

/-! ### Loading -/

/-- Where the part is not working and no header read is awaited, nothing is under way. -/
theorem Ledger.nothing_resting (hs : Ledger [] s) (hw : ¬ s.working) (h0 : s.unended Txn.isHeaderRead = 0) :
    s.rw.queue = [] ∧ s.port.table = [] := by
  refine ⟨hs.queue hw, List.eq_nil_iff_forall_not_mem.mpr fun e he => ?_⟩
  exact (unended_ne_zero_iff s Txn.isHeaderRead).mpr (.inr ⟨e, he, hs.table hw e he⟩) h0

/-- A change of the device state among those that are not working, while no header read is under way. -/
theorem Ledger.rest (hs : Ledger [] s) (hw : ¬ s.working) (h0 : s.unended Txn.isHeaderRead = 0) {c : Control}
    (hw' : ¬ ({ s with dc := c } : State).working) : Ledger [] { s with dc := c } := by
  obtain ⟨hq, ht⟩ := hs.nothing_resting hw h0
  refine ledger_of_resting hw' (fun i => ?_) hq (hs.inHand hw) (by simp [ht])
  simp [State.unended, hq, ht]

/-- A change of Device Control that keeps the device state. -/
theorem Ledger.control (hs : Ledger gone s) {c : Control} (hd : c.device = s.dc.device) :
    Ledger gone { s with dc := c } := by
  have hw := working_congr (s := s) (t := { s with dc := c }) hd
  refine ⟨fun i => ?_, fun h => hs.queue (h ∘ hw.mpr), fun h => hs.inHand (h ∘ hw.mpr),
    fun h => hs.table (h ∘ hw.mpr), fun h => hs.closing (hw.mp h), fun h => hs.drained (hd ▸ h)⟩
  have := hs.counts i
  cases i with
  | headerRead => simp only [State.awaits, hd] at this ⊢; exact this
  | _ => exact this

theorem ledger_failLoad (bit : BitVec 4) (hs : Ledger [] s) (h0 : s.unended Txn.isHeaderRead = 0) :
    Ledger [] (failLoad bit s) := by
  unfold failLoad
  split
  case h_1 l hd =>
    refine hs.rest (by simp [State.working, hd]) h0 ?_
    cases l.origin <;> simp [State.working, State.setDevice, LoadOrigin.state]
  all_goals exact hs

/-- At entry to RUNNING the writes of the initial publication, or a lane refresh, are the first under way. -/
theorem ledger_enterRunning (hq : s.rw.queue = []) (ht : s.port.table = [])
    (hcl : ∀ p, s.rw.publication = some p → p.closing = false) (o : LoadOrigin) (n : Snapshot) :
    Ledger [] (enterRunning o n s) := by
  have hd : (enterRunning o n s).dc.device = .running := by rw [enterRunning_dc]
  refine ledger_of_working (.inl hd) (fun i => ?_) (fun p hp hc => ?_) fun h => by simp [hd] at h
  · cases o with
    | off =>
      have h1 : (allStreams.map (initialStatusWrite (startRunning n s))).countP i.has
          = if i = .streamStatus then 24 else 0 := countP_has_of_kind (fun x hx => by
        obtain ⟨y, _, rfl⟩ := List.mem_map.mp hx; rfl) i
      have hu : (enterRunning .off n s).unended i.has
          = (if i = .streamStatus then 24 else 0) + if i = .laneStatus then 12 else 0 := by
        show List.countP _ ((s.rw.queue ++ _) ++ _) + List.countP _ s.port.table = _
        rw [hq, ht, List.nil_append, List.countP_append, h1, countP_laneStatus]
        rfl
      rw [hu, List.countP_nil]
      cases i with
      | streamStatus | laneStatus => exact Nat.le_refl _
      | _ => exact Nat.zero_le _
    | quiet =>
      obtain ⟨x, hx, h⟩ := resumeFromQuiet_cases (startRunning n s)
      rw [show enterRunning .quiet n s = _ from h]
      have h0 : (startRunning n s).unended i.has = 0 := by
        show List.countP _ s.rw.queue + List.countP _ s.port.table = 0
        rw [hq, ht]; rfl
      have hle := hx.ledger i
      rw [h0, of_nothing] at hle
      show List.countP _ (x.rw.queue ++ _) + List.countP _ x.port.table + 0 ≤ _
      rw [List.countP_append, countP_laneStatus]
      by_cases hi : i = .laneStatus
      · subst hi
        have hla : x.awaits .laneStatus = (startRunning n s).awaits .laneStatus := hx.laneUnanswered
        simp only [State.unended, State.awaits] at hle hla ⊢
        simp
        omega
      · have hxi : x.unended i.has ≤ x.awaits i := by omega
        rw [if_neg hi]
        cases i with
        | laneStatus => exact absurd rfl hi
        | _ => exact hxi
  · rw [enterRunning_publication] at hp
    simp [hcl p hp] at hc

theorem ledger_headerReadOk (hql : QuietLaw s) (data : Read128) (hs : Ledger [] s)
    (h0 : s.unended Txn.isHeaderRead = 0) : Ledger [] (headerReadOk data s) := by
  unfold headerReadOk
  split
  case h_1 l hd =>
    have hw : ¬ s.working := by simp [State.working, hd]
    obtain ⟨hq, ht⟩ := hs.nothing_resting hw h0
    dsimp only
    split
    · exact hs.rest hw h0 (by simp [State.working])
    · split
      · exact ledger_enterRunning hq ht (fun p hp => hql.noClosing (by simp [hd]) hp) _ _
      · exact ledger_failLoad _ hs h0
  all_goals exact hs

theorem unended_headerRead_of_gone {x : Txn} (hx : x.isHeaderRead = true) (hs : Ledger [x] s) :
    s.unended Txn.isHeaderRead = 0 := by
  have h1 := hs.counts .headerRead
  have h2 : s.awaits .headerRead ≤ 1 := by
    unfold State.awaits
    dsimp only
    split
    · split <;> omega
    · omega
  rw [countP_has_singleton, if_pos (has_iff (i := .headerRead).mp hx)] at h1
  have h3 : s.unended Kind.headerRead.has = s.unended Txn.isHeaderRead := rfl
  omega

/-- What becomes of the ledger when a transaction's end is taken. -/
theorem ledger_of_handed {x : Txn} (h : Handed x s t) (hql : QuietLaw s) (hdl : DrainedLaw s)
    (hs : s.counts → Ledger [x] s) (hc : t.counts) : Ledger [] t := by
  cases h with
  | orderly h hst =>
    have hcs := (counts_congr h.device).mp hc
    exact (hs hcs).orderly h (fun i => by simpa using ack_of x i) fun hw =>
      hst (calm_of_not_working hcs hql hw) fun h => absurd h hw
  | streamStatus hx => exact ledger_streamStatusOk hx (hs ((counts_congr (by simp)).mp hc))
  | laneStatus hx => exact ledger_laneStatusOk hx (hs ((counts_congr (by simp)).mp hc))
  | summary hx =>
    have hcs : s.counts := by
      obtain h | ⟨hw, _⟩ := summaryOk_dc s
      · exact (counts_congr (by rw [h])).mp hc
      · exact counts_of_working hw
    exact ledger_summaryOk hx hql hdl (hs hcs)
  | header hx data =>
    have hcs : s.counts := by
      obtain h | ⟨l, hd, _⟩ := headerReadOk_dc data s
      · exact (counts_congr (by rw [h])).mp hc
      · simp [State.counts, hd]
    have hl := hs hcs
    exact ledger_headerReadOk hql data hl.forget (unended_headerRead_of_gone hx hl)
  | headerFault hx =>
    have hcs : s.counts := by
      obtain h | ⟨l, hd, _⟩ := failLoad_dc causeBoardRead s
      · exact (counts_congr (by rw [h])).mp hc
      · simp [State.counts, hd]
    have hl := hs hcs
    exact ledger_failLoad _ hl.forget (unended_headerRead_of_gone hx hl)
  | broken => exact absurd hc (by simp [State.counts, enterBroken])

/-! ### A grant -/

/-- A transaction just granted to a working part, which its client now awaits. -/
theorem Ledger.granted (hw : s.working) (hs : Ledger [] s) {i : Kind} (hd : t.dc = s.dc) (hr : t.rw = s.rw)
    (hu : ∀ j : Kind, t.unended j.has = s.unended j.has + if i = j then 1 else 0)
    (ha : ∀ j : Kind, s.awaits j + (if i = j then 1 else 0) ≤ t.awaits j) : Ledger [] t := by
  refine ledger_of_working ((working_congr (by rw [hd])).mpr hw) (fun j => ?_) (hr ▸ hs.closing hw)
    (by rw [hd, hr]; exact hs.drained)
  have h1 := hs.counts j
  have h2 := hu j
  have h3 := ha j
  rw [List.countP_nil] at h1 ⊢
  omega

theorem placed_unended_kind {p : MemoryPort} {x : Txn} {i : Kind} (hp : p.table = s.port.table) (hx : x.kind? = some i)
    (j : Kind) : (s.placed p x).unended j.has = s.unended j.has + if i = j then 1 else 0 := by
  rw [placed_unended hp]
  simp only [has_iff, hx, Option.some.injEq]

/-- A Lane Writer awaits one more transaction of its frame. -/
theorem awaits_setLw {k : Lane} {w : Writer} (hw : w.awaited = (s.lw k).awaited + 1) (j : Kind) :
    (s.setLw k w).awaits j = s.awaits j + if Kind.lane k = j then 1 else 0 := by
  cases j with
  | lane l =>
    simp only [State.awaits, lw_setLw_cases, Kind.lane.injEq]
    by_cases h : l = k
    · subst h; simpa using hw
    · simp [h, Ne.symm h]
  | _ => simp [State.awaits]

theorem ledger_clientIssued_lane {k : Lane} {x : Txn} {p : MemoryPort} (hp : p.table = s.port.table)
    (hw : s.working) (hs : Ledger [] s) (h : laneRequest k s = some x) :
    Ledger [] (clientIssued x (s.placed p x)) := by
  obtain ⟨a, f, slot, read, rfl, hl⟩ | ⟨a, b, f, q, rfl, hl⟩ := kind_of_laneRequest h
  · have hl' : (s.placed p (.slotRead k a)).lw k = .searching f slot read false := hl
    simp only [clientIssued, hl']
    refine hs.granted hw rfl rfl (i := .lane k) (fun j => placed_unended_kind (s := s) hp rfl j) fun j => ?_
    rw [awaits_setLw (by rw [hl']; rfl)]
    exact Nat.le_refl _
  · have hl' : (s.placed p (.dataWrite k a b)).lw k = .placing f q := hl
    simp only [clientIssued, hl']
    generalize hz : State.setLw _ k (.placing f _) = z
    have hzl : Ledger [] z := by
      subst hz
      refine hs.granted hw rfl rfl (i := .lane k) (fun j => placed_unended_kind (s := s) hp rfl j) fun j => ?_
      rw [awaits_setLw (by simp only [setLr_lw, hl']; rfl)]
      exact Nat.le_of_eq rfl
    have hzw : z.working := by subst hz; exact hw
    exact hzl.orderly (advance_orderly ..) (by simp) (absurd hzw)

theorem ledger_clientIssued_walker {x : Txn} {p : MemoryPort} (hp : p.table = s.port.table)
    (hs : Ledger [] s) (h : walkerRequest s = some x) :
    Ledger [] (clientIssued x (s.placed p x)) := by
  obtain ⟨hx, l, hd, hi⟩ | ⟨hx, hd, j, hj, hi, hi'⟩ := kind_of_walkerRequest h
  · have hw : ¬ s.working := by simp [State.working, hd]
    have h0 : s.unended Txn.isHeaderRead = 0 := by
      have h1 := hs.counts .headerRead
      simp only [State.awaits, hd, hi] at h1
      exact Nat.eq_zero_of_le_zero h1
    obtain ⟨hq, ht⟩ := hs.nothing_resting hw h0
    have hk := placed_unended_kind (s := s) hp (has_iff (i := .headerRead).mp hx)
    cases x with
    | headerRead a =>
      have hd' : (s.placed p (.headerRead a)).dc.device = .loading l := hd
      simp only [clientIssued, hd']
      refine ledger_of_resting (by simp [State.working, State.setDevice]) (fun i => ?_) hq (hs.inHand hw) ?_
      · show (s.placed p (.headerRead a)).unended i.has + 0 ≤ _
        rw [hk]
        have h1 : s.unended i.has = 0 := by simp [State.unended, hq, ht]
        cases i <;> simp [h1, State.awaits, State.setDevice]
      · simp [State.placed, State.setDevice, hp, ht, Txn.isHeaderRead]
    | _ => exact nomatch hx
  · have hw : s.working := by
      by_contra hw
      simp [hs.inHand hw] at hj
    have hk := has_iff (i := .jobRead).mp hx
    have hstep : clientIssued x (s.placed p x)
        = (s.placed p x).setInHand (some { j with stage := j.stage.issue }) := by
      have hj' : (s.placed p x).walker.inHand = some j := hj
      cases x with
      | anchorRead | orderRead | linkRead => simp [clientIssued, hj']
      | _ => exact nomatch hx
    rw [hstep]
    refine hs.granted hw rfl rfl (placed_unended_kind (s := s) hp hk) fun i => ?_
    cases i with
    | jobRead => simp [State.awaits, Walker.readAwaited, State.setInHand, hj, hi, hi']
    | _ => exact Nat.le_refl _

theorem ledger_grantOne (hc : s.counts) (hql : QuietLaw s) (hrl : ReporterLaw s) (hs : Ledger [] s) :
    Ledger [] (grantOne s) := by
  obtain h | ⟨c, x, p, hx, hp, h⟩ := grantOne_cases s
  · rw [h]; exact hs
  · rw [h, issue_eq]
    obtain ⟨k, hreq⟩ | hreq | hreq := request_cases (request_of_eligible hx).1
    · refine ledger_clientIssued_lane hp ?_ hs hreq
      by_contra hw
      have hi := (calm_of_not_working hc hql hw).idle k
      obtain ⟨_, _, _, _, _, hl⟩ | ⟨_, _, _, _, _, hl⟩ := kind_of_laneRequest hreq <;> simp [hi] at hl
    · exact ledger_clientIssued_walker hp hs hreq
    · have hw : s.working := by
        by_contra hw
        simp [hs.queue hw] at hreq
      have hcl := hrl x (List.mem_of_mem_head? hreq)
      obtain ⟨hn, _⟩ | ⟨_, hi⟩ | ⟨hk, _⟩ := clientIssued_cases (s := s.placed p x) x
      · exact absurd hcl hn
      · rw [hi]
        refine ledger_of_working hw (fun i => ?_) (hs.closing hw) hs.drained
        exact (unended_tail hp hreq i.has) ▸ hs.counts i
      · cases x with
        | headerRead => exact absurd hcl walkerClient_ne_reporterClient
        | _ => exact nomatch hk

/-! ### Every move -/

theorem ledger_of_move (h : Move s t) (hql : QuietLaw s) (hdl : DrainedLaw s) (hrl : ReporterLaw s)
    (hs : s.counts → Ledger [] s) : t.counts → Ledger [] t := by
  cases h with
  | orderly h hst =>
    intro hc
    have hcs := (counts_congr h.device).mp hc
    exact (hs hcs).orderly h (by simp) fun hw => hst (calm_of_not_working hcs hql hw)
  | boardLo v => unfold boardLoWrite; split <;> exact fun hc => (hs hc).control rfl
  | boardHi v => unfold boardHiWrite; split <;> exact fun hc => (hs hc).control rfl
  | enable =>
    unfold controlEnable
    split
    case h_1 hd | h_2 hd =>
      intro _
      have hl := hs (by simp [State.counts, hd])
      refine hl.rest (by simp [State.working, hd]) ?_ (by simp [State.working, State.setDevice])
      have h1 := hl.counts .headerRead
      simp only [State.awaits, hd] at h1
      exact Nat.eq_zero_of_le_zero h1
    all_goals exact fun hc => (hs hc).control rfl
  | quiesce =>
    unfold controlQuiesce
    split
    · next hd =>
      intro _
      have hl := hs (by simp [State.counts, hd])
      refine ledger_of_working (.inr rfl) (fun i => ?_) (hl.closing (.inl hd)) fun _ hdr => ?_
      · have h1 := hl.counts i
        cases i with
        | headerRead => simp only [State.awaits, hd] at h1; exact h1
        | _ => exact h1
      · rcases hdr with hdr | hdr <;> exact nomatch hdr
    · exact fun hc => (hs hc).control rfl
  | reset =>
    unfold controlReset
    split
    · exact fun hc => (hs hc).control rfl
    · exact fun hc => absurd rfl hc.1
  | powerOn =>
    exact fun _ => ledger_of_resting (by simp [State.working, powerOnReset, Control.reset])
      (fun _ => Nat.zero_le _) rfl rfl fun _ he => nomatch he
  | resetComplete =>
    unfold resetComplete
    split
    · exact fun _ => ledger_of_resting (by simp [State.working, Control.softReset, Control.reset])
        (fun _ => Nat.zero_le _) rfl rfl fun _ he => nomatch he
    · exact hs
  | grant =>
    intro hc
    have hcs : s.counts := by
      obtain h | ⟨l, hd, h⟩ := grantOne_dc s
      · exact (counts_congr (by rw [h])).mp hc
      · simp [State.counts, hd]
    exact ledger_grantOne hcs hql hrl (hs hcs)
  | refresh =>
    obtain h | ⟨hd, due, h | ⟨h0, h⟩⟩ := refreshExpired_cases s <;> rw [h]
    · exact hs
    · intro hc
      exact (hs hc).reporter (.inl hd) (made := []) (by simp) (fun i => by cases i <;> simp [Reporter.awaits, Reporter.statusAwaited, Reporter.summaryAwaited])
        ((hs hc).closing (.inl hd)) (hs hc).drained
    · intro hc
      refine (hs hc).reporter (.inl hd) rfl (fun i => ?_) (fun p hp hcl => ?_) (hs hc).drained
      · rw [countP_laneStatus]
        cases i <;> simp [Reporter.awaits, Reporter.statusAwaited, Reporter.summaryAwaited, h0]
      · simp [hql.noClosing (by simp [hd]) hp] at hcl
  | publish =>
    obtain h | ⟨hw, hp, hi, h⟩ := beginPublication_cases s <;> rw [h]
    · exact hs
    · intro hc
      have hk : ∀ i : Kind, ((readyBatch s).map (streamStatusWrite s)).countP i.has
          = if i = .streamStatus then (readyBatch s).length else 0 := fun i => by
        rw [countP_has_of_kind (j := .streamStatus) (fun x hx => by obtain ⟨y, _, rfl⟩ := List.mem_map.mp hx; rfl),
          List.length_map]
      refine (hs hc).reporter hw rfl (fun i => ?_) (fun p hp hcl => ?_) fun _ _ => hi
      · rw [hk]
        cases i <;> simp [Reporter.awaits, Reporter.statusAwaited, Reporter.summaryAwaited, hi, hp]
      · obtain rfl := Option.some.inj hp
        simp at hcl
  | quiescePoint =>
    obtain h | ⟨hd, hn, _, _, h⟩ := quiescePoint_cases s <;> rw [h]
    · exact hs
    · intro hc
      exact (hs hc).reporter (.inr hd) (made := []) (by simp) (fun i => by cases i <;> simp [Reporter.awaits, Reporter.statusAwaited, Reporter.summaryAwaited])
        ((hs hc).closing (.inr hd)) fun _ hdr => by rcases hdr with hdr | hdr <;> exact nomatch hdr
  | drainRefresh =>
    obtain h | ⟨hd, _, _, hn, hi, h0, h⟩ := drainRefresh_cases s <;> rw [h]
    · exact hs
    · intro hc
      refine (hs hc).reporter (.inr hd) rfl (fun i => ?_) (fun p hp _ => ?_) fun _ _ => hi
      · rw [countP_laneStatus]
        cases i <;> simp [Reporter.awaits, Reporter.statusAwaited, Reporter.summaryAwaited, h0]
      · rw [show _ = none from hn] at hp
        exact nomatch hp
  | closing =>
    obtain h | ⟨hd, hdr, h0, hn, x, hx, h⟩ := closingPublication_cases s <;> rw [h]
    · exact hs
    · intro hc
      have hi := (hs hc).drained hd (.inl hdr)
      refine (hs hc).reporter (.inr hd) rfl (fun i => ?_) (fun _ _ _ => h0) fun _ _ => hi
      rw [countP_summary hx]
      cases i <;> simp [Reporter.awaits, Reporter.statusAwaited, Reporter.summaryAwaited, hi, hn]
  | @answered c d e v _ ho h hrw hu =>
    have hql' : QuietLaw (removeOldest c d s) := hql
    have hdl' : DrainedLaw v := (drainedLaw_removeOldest hdl c d).orderly hql' h fun _ _ => .of_rw hrw
    refine ledger_of_handed hu (hql'.orderly h) hdl' fun hc => ?_
    have hcs : s.counts := (counts_congr h.device).mp hc
    have hl := hs hcs
    have hgone : Ledger [e.txn] (removeOldest c d s) := by
      refine ⟨fun i => ?_, hl.queue, hl.inHand, fun hw x hx => hl.table hw x (List.mem_of_mem_eraseP hx), hl.closing,
        hl.drained⟩
      have h1 := hl.counts i
      rw [unended_removeOldest ho] at h1
      rw [List.countP_singleton]
      exact h1
    exact hgone.orderly h (by simp) fun _ => .of_rw hrw

theorem ledger_quiet (hs : LedgerLaw s) (hd : s.dc.device = .quiet) : s.port.table = [] ∧ s.rw.queue = [] := by
  have hl := (ledgerLaw_iff s).mp hs (by simp [State.counts, hd])
  have h1 := hl.counts .headerRead
  simp only [State.awaits, hd] at h1
  exact (hl.nothing_resting (by simp [State.working, hd]) (Nat.eq_zero_of_le_zero h1)).symm

/-! ### The STATE register -/

theorem device_code_le (d : DeviceState) : d.code ≤ 6 := by cases d <;> simp [DeviceState.code]

theorem result_code_le (r : CommandResult) : r.code ≤ 3 := by cases r <;> decide

/-- STATE holds its four fields side by side, the outstanding count at the top. -/
theorem readRegister_state_toNat (s : State) (h : s.port.table.length < 65536) : (readRegister 0x08#5 s).toNat
    = s.dc.device.code + s.dc.result.code * 16 + (if s.dc.irqEnable then 256 else 0) + s.port.table.length * 65536 := by
  show (stateRegister s).toNat = _
  have h1 := device_code_le s.dc.device
  have h2 := result_code_le s.dc.result
  unfold stateRegister
  rw [BitVec.toNat_ofNat]
  split <;> omega

end

/-- Settles O58: each move keeps the quiet law by the cases of `Move`; the drained law because outside RUNNING, with no
frame held and no job in hand, an operation leaves the Report Writer's queue and pending set alone; and the ledger
because an orderly operation makes nothing but commits, which their lane awaits. -/
theorem everyStepKeepsTheQuietLaw : Obligations.EveryStepKeepsTheQuietLaw := by
  unfold Obligations.EveryStepKeepsTheQuietLaw
  refine ⟨fun s s' => law_of_moves (fun _ _ => id) fun s t hs h => quietLaw_of_move h hs,
    fun s s' hq hd h => ?_, fun s s' hq hd hr hl h => ?_, fun s hl hd => ?_⟩
  · obtain ⟨q, hm⟩ := step_move h
    exact drainedLaw_of_move hm hq hd
  · obtain ⟨q, hm⟩ := step_move h
    rw [ledgerLaw_iff] at hl ⊢
    refine ledger_of_move hm hq hd hr fun hc => ?_
    obtain ⟨h1, h2, h3, h4, h5, h6⟩ := hl hc
    exact ⟨h1, h2, h3, h4, h5, h6⟩
  · obtain ⟨ht, hqe⟩ := ledger_quiet hl hd
    refine ⟨ht, hqe, ?_⟩
    rw [readRegister_state_toNat s (by simp [ht]), ht, hd]
    have := result_code_le s.dc.result
    simp only [DeviceState.code, List.length_nil]
    split <;> omega

end Sys2Proof.Machine

/-! PROOFS. The machine, its resets and the Register Port (R2, R30, R56, R96, R107, R113, R116, R123, R124, R126,
R131, R134, R136, R149, R150, R161, R167 to R171, R180, R182, R183). -/

namespace Sys2Proof.Machine

/-- Settles O1: the front command is run by definition, and every command has a meaning in every state. -/
theorem stepRunsTheFrontCommand : Obligations.StepRunsTheFrontCommand := by
  unfold Obligations.StepRunsTheFrontCommand
  exact fun c rest s => ⟨rfl, by cases c <;> exact ⟨_, rfl⟩⟩

/-! ### The reset input -/

section
variable (s : State)

theorem edgeLevel_eq (e : Edge) : edgeLevel e = decide (e = .rise) := by cases e <;> rfl

/-- A part held in reset takes no command but the reset input's own; a trigger pin still moves. -/
theorem exec_asleep (h : s.dc.resetAsserted = true) {c : Instr} (hp : c ≠ .powerOnReset)
    (hr : c ≠ .resetInputReleased) (ht : ∀ k e, c ≠ .triggerEdge k e) : exec c s = .next s := by
  cases c with
  | powerOnReset => exact absurd rfl hp
  | resetInputReleased => exact absurd rfl hr
  | triggerEdge k e => exact absurd rfl (ht k e)
  | noCommand => exact live_asleep (fun s => s) h
  | issueAccepted => exact live_asleep (fun s => { s with port := { s.port with issuePoint := none } }) h
  | _ => exact live_asleep _ h

theorem exec_triggerEdge_asleep (h : s.dc.resetAsserted = true) (k : Lane) (e : Edge) :
    exec (.triggerEdge k e) s = .next (s.setLr k { s.lr k with line := decide (e = .rise) }) :=
  edgeLevel_eq e ▸ live_asleep (s := moveLine k (edgeLevel e) s) _ h

end

/-- Settles O3: the reset values block by block, and `live` for a part held in reset. -/
theorem resetInputHoldsThePart : Obligations.ResetInputHoldsThePart := by
  unfold Obligations.ResetInputHoldsThePart
  refine fun s => ⟨rfl, rfl, fun h => ⟨by simp [irqOutput, h], exec_triggerEdge_asleep s h, fun c => exec_asleep s h⟩⟩

/-! ### The reset state -/

theorem reset_ctx (st : StreamId) : State.reset.ctx st = ⟨.idle, 0, .noResult, none, 0, 0⟩ := by
  simp [State.ctx, State.reset, Context.reset]

theorem reset_lr (k : Lane) : State.reset.lr k = Receiver.reset := by simp [State.lr, State.reset]

theorem reset_lw (k : Lane) : State.reset.lw k = .idle := by simp [State.lw, State.reset]

theorem reset_isPending (st : StreamId) : State.reset.isPending st = false := by
  simp [State.isPending, State.reset, Reporter.reset]

theorem reset_deficit (c : Client) : State.reset.port.deficits[c.val] = 0 := by
  simp [State.reset, MemoryPort.reset]

theorem reset_quantum (c : Client) : quantumBytes c State.reset = 4096 := rfl

theorem reset_expired (c : Client) (d : Direction) : State.reset.expired c d = 0 := by
  cases d <;> simp [State.expired, State.reset, MemoryPort.reset]

/-- Settles O4: the reset values, field by field. -/
theorem resetStateHoldsTheSpecsValues : Obligations.ResetStateHoldsTheSpecsValues := by
  unfold Obligations.ResetStateHoldsTheSpecsValues
  refine ⟨rfl, rfl, rfl, rfl, rfl, rfl, rfl, rfl, rfl, reset_ctx, rfl, rfl, rfl, fun k => ?_, reset_isPending,
    rfl, rfl, rfl, rfl, rfl, rfl, rfl, rfl, rfl, fun c => ⟨reset_deficit c, reset_quantum c, reset_expired c⟩⟩
  rw [reset_lr]
  exact ⟨rfl, rfl, rfl, rfl, rfl, reset_lw k⟩

theorem reset_standing (st : StreamId) : State.reset.standing st = .idle := by
  rw [State.standing, reset_ctx]

theorem reset_order (st : StreamId) : State.reset.order? st = none := by
  rw [State.order?, reset_standing]
  rfl

theorem ledgerLaw_reset : LedgerLaw State.reset :=
  (ledgerLaw_iff _).mpr fun _ => ledger_of_resting (by decide) (fun _ => Nat.zero_le _) rfl rfl fun _ h => nomatch h

theorem frameLaw_reset : FrameLaw State.reset := fun _ => by
  refine ⟨fun k st h => ?_, fun st b p o hs _ => ?_⟩
  · simp [reset_lw, Writer.stream?] at h
  · simp [reset_standing] at hs

theorem bindingLaw_reset : BindingLaw State.reset := fun st x lane tag => by
  simp [holdsPair, reset_standing, Standing.binding?]

/-- Settles O60: at reset every block is empty. -/
theorem lawsHoldAfterReset : Obligations.LawsHoldAfterReset := by
  unfold Obligations.LawsHoldAfterReset
  refine ⟨?_, fun k => ?_, fun k => ?_, bindingLaw_reset, ?_, ?_, ?_, rfl, ?_, ?_, ledgerLaw_reset,
    frameLaw_reset, fun st o h => ?_⟩
  · exact ⟨Nat.zero_le _, Nat.zero_le _⟩
  · rw [reset_lr]; exact Staging.fits_empty
  · rw [reset_lr]; exact ⟨trivial, fun _ => rfl⟩
  · exact List.nodup_nil
  · exact fun _ h => nomatch h
  · exact rfl
  · exact quietLaw_of_noClosing (.inr reset_lw) fun p h => nomatch h
  · exact drainedLaw_of_off rfl rfl rfl rfl
  · simp [reset_order] at h

/-- Settles O5: the reset values block by block, once nothing is outstanding. -/
theorem resetCompleteReachesOff : Obligations.ResetCompleteReachesOff := by
  unfold Obligations.ResetCompleteReachesOff
  intro s ha
  have hexec : exec .resetComplete s = .next (resetComplete s) := live_awake _ ha
  rw [hexec]
  refine ⟨fun hd ht => ?_, fun h => ?_⟩
  · have hr : s.dc.resetAsserted = false := ha
    simp only [resetComplete, hd, ht, and_self, if_true, Control.softReset, hr]
    rfl
  · rw [resetComplete, if_neg (by tauto)]

/-! ### The Register Port -/

/-- Settles O6: STATE's fields lie side by side, and each other register is one of Device Control's. -/
theorem registerReads : Obligations.RegisterReads := by
  unfold Obligations.RegisterReads
  refine fun s => ⟨by rw [board_toNat]; omega, fun _ => rfl, rfl, rfl, rfl, rfl, rfl, rfl, rfl, ?_, fun h => ?_⟩
  · show (s.dc.cause.setWidth 32).toNat = _
    exact BitVec.toNat_setWidth_of_le (by decide)
  · have h1 := device_code_le s.dc.device
    have h2 := result_code_le s.dc.result
    have h3 := readRegister_state_toNat s (by omega)
    refine ⟨?_, ?_, ?_, ?_⟩
    · rw [h3]; split <;> omega
    · rw [h3]; split <;> omega
    · rw [← BitVec.testBit_toNat, h3, Nat.testBit_eq_decide_div_mod_eq]
      cases s.dc.irqEnable <;> simp <;> omega
    · rw [h3]; split <;> omega

/-- Settles O7: the four device states in which the two commands are taken, and all others. -/
theorem enableAndQuiesceByDeviceState : Obligations.EnableAndQuiesceByDeviceState := by
  unfold Obligations.EnableAndQuiesceByDeviceState
  intro s ha
  have he : exec .enable s = .next (controlEnable s) := live_awake _ ha
  have hq : exec .quiesce s = .next (controlQuiesce s) := live_awake _ ha
  rw [he, hq]
  refine ⟨fun h => ?_, fun h => ?_, fun h1 h2 => ?_, fun h => ?_, fun h => ?_⟩
  · rw [controlEnable]; simp only [h]; rfl
  · rw [controlEnable]; simp only [h]; rfl
  · unfold controlEnable
    split
    case h_1 h => exact absurd h h1
    case h_2 h => exact absurd h h2
    all_goals rfl
  · rw [controlQuiesce, if_pos h]; rfl
  · rw [controlQuiesce, if_neg h]; rfl

theorem writeHasNoEffect_of {o : BitVec 5} {e : BitVec 4}
    (h : e ≠ 0xF#4 ∨ o.toNat % 4 ≠ 0 ∨ o.toNat = 0 ∨ o.toNat = 8) : writeHasNoEffect o e = true := by
  have h0 : o.toNat = 0 ↔ o = 0x00#5 := BitVec.toNat_inj (y := 0x00#5)
  have h8 : o.toNat = 8 ↔ o = 0x08#5 := BitVec.toNat_inj (y := 0x08#5)
  simp only [writeHasNoEffect, Bool.or_eq_true, bne_iff_ne, beq_iff_eq]
  tauto

/-- Settles O9: a write goes to its own register, and the Board address is writable in OFF and QUIET alone. -/
theorem otherRegisterWrites : Obligations.OtherRegisterWrites := by
  unfold Obligations.OtherRegisterWrites
  intro s ha
  refine ⟨live_awake _ ha, live_awake _ ha, live_awake (fun s => s) ha, fun v hv => ?_, fun o e v h => ?_, fun v => ?_⟩
  · exact (live_awake _ ha).trans (congrArg _ (controlWrite_unknown s hv))
  · exact (live_awake _ ha).trans (congrArg _ (portWrite_noEffect s (writeHasNoEffect_of h) v))
  · have hlo : exec (.boardLoWrite v) s = .next (boardLoWrite v s) := live_awake _ ha
    have hhi : exec (.boardHiWrite v) s = .next (boardHiWrite v s) := live_awake _ ha
    rw [hlo, hhi]
    refine ⟨fun h => ⟨⟨_, boardLo_value v, ?_⟩, ?_⟩, fun h1 h2 => ⟨?_, ?_⟩⟩
    · rw [boardLoWrite, if_pos h]; rfl
    · rw [boardHiWrite, if_pos h]; rfl
    · rw [boardLoWrite, if_neg (by tauto)]; rfl
    · rw [boardHiWrite, if_neg (by tauto)]; rfl

/-- Settles O11: the output follows IRQ enable, the report number, SEEN and CAUSE at once. -/
theorem interruptOutputAndSeen : Obligations.InterruptOutputAndSeen := by
  unfold Obligations.InterruptOutputAndSeen
  refine fun s v ha => ⟨irqOutput_iff ha, { s with dc := { s.dc with seen := v } }, live_awake _ ha, rfl, rfl,
    fun hi => ?_⟩
  rw [← Bool.not_eq_true, irqOutput_iff (s := { s with dc := { s.dc with seen := v } }) ha]
  rw [show ({ s with dc := { s.dc with seen := v } } : State).dc.irqEnable = true from hi, eq_comm (a := v)]
  tauto

/-! ### Late responses -/

/-- What a command for a client and direction that are owed an expired response does, whatever it names. -/
theorem live_respond_late {s : State} (ha : s.awake) {c : Client} {d : Direction} (h : s.expired c d ≠ 0)
    (isKind : Txn → Bool) (act : Txn → State → State) :
    live (respond c d isKind act) s = .next (s.setExpired c d (s.expired c d - 1)) :=
  (live_awake _ ha).trans (congrArg _ (respond_late isKind act h))

/-- Settles O30: a response command first looks at the expired count of its client and direction. -/
theorem acceptanceAndLateResponses : Obligations.AcceptanceAndLateResponses := by
  unfold Obligations.AcceptanceAndLateResponses
  refine fun s ha => ⟨live_awake (fun s => { s with port := { s.port with issuePoint := none } }) ha,
    fun c d h => ?_, fun c d h => ?_⟩
  · refine (live_awake (fun s => if s.expired c d ≠ 0 then discardLate c d s else s) ha).trans (congrArg _ ?_)
    exact if_neg (not_not.mpr h)
  · have hl : exec (.lateResponse c d) s = .next (s.setExpired c d (s.expired c d - 1)) :=
      (live_awake (fun s => if s.expired c d ≠ 0 then discardLate c d s else s) ha).trans (congrArg _ (if_pos h))
    rw [hl]
    refine ⟨rfl, fun hc hd x hx => ?_, fun hc hd x hx => ?_, fun k hc => ⟨fun hd => ?_, fun hd => ?_⟩⟩
    all_goals subst hc hd
    · rcases hx with (⟨a, rfl | rfl⟩ | ⟨a, rfl | rfl⟩ | rfl | rfl | rfl | rfl)
      all_goals exact live_respond_late ha h _ _
    · rcases hx with rfl | rfl | rfl | rfl | rfl | rfl | rfl | rfl | rfl
      all_goals exact live_respond_late ha h _ _
    · exact ⟨fun a => live_respond_late ha h _ _, live_respond_late ha h _ _⟩
    · exact ⟨live_respond_late ha h _ _, live_respond_late ha h _ _⟩

end Sys2Proof.Machine

/-! PROOFS. Trigger edges and the idle step (R78 to R80, R113, R114, R184): an edge acts stream by stream, and the
samples of a microsecond act lane by lane. -/

namespace Sys2Proof.Machine

/-! ### An edge at one stream -/

/-- The edge starts the ARMED order of a stream bound to the lane (R79). -/
def Standing.starts (k : Lane) (e : Edge) : Standing → Bool
  | .bound b (.armed o _) => b.lane == k && o.params.start == .edge && senseMatches o.params.sense e
  | _ => false

/-- What an edge makes of a stream's standing (R78 to R80). -/
def Standing.edged (k : Lane) (e : Edge) : Standing → Standing
  | .bound b (.armed o d) => if (Standing.bound b (.armed o d)).starts k e then .bound b (.capturing o)
      else .bound b (.armed o d)
  | .bound b (.capturing o) => if b.lane = k then .bound b (.capturing { o with
      counters := { o.counters with edgesIgnored := o.counters.edgesIgnored + 1 } }) else .bound b (.capturing o)
  | x => x

/-- Streams and pending set alone differ. -/
def StreamsOnly (s t : State) : Prop :=
  ∃ (ctxs : Vector Context 24) (p : Vector Bool 24), t = { s with streams := ctxs, rw := { s.rw with pendingSet := p } }

section
variable {s t u : State}

theorem StreamsOnly.refl (s : State) : StreamsOnly s s := ⟨s.streams, s.rw.pendingSet, rfl⟩

theorem StreamsOnly.trans (h : StreamsOnly s t) (h' : StreamsOnly t u) : StreamsOnly s u := by
  obtain ⟨a, b, rfl⟩ := h
  obtain ⟨c, d, rfl⟩ := h'
  exact ⟨c, d, rfl⟩

theorem StreamsOnly.dc (h : StreamsOnly s t) : t.dc = s.dc := by
  obtain ⟨a, b, rfl⟩ := h
  rfl

theorem StreamsOnly.eq (h : StreamsOnly s t) :
    t = { s with streams := t.streams, rw := { s.rw with pendingSet := t.rw.pendingSet } } := by
  obtain ⟨a, b, rfl⟩ := h
  rfl

end

/-- The streams of `l` have their standings put to `f`, and those that `on` names are pended; the others stay. -/
structure Moved (l : List StreamId) (f : Standing → Standing) (on : Standing → Bool) (s t : State) : Prop where
  only : StreamsOnly s t
  moved : ∀ st ∈ l, t.ctx st = { s.ctx st with standing := f (s.standing st) }
    ∧ t.isPending st = (s.isPending st || on (s.standing st))
  others : ∀ st, st ∉ l → t.ctx st = s.ctx st ∧ t.isPending st = s.isPending st

theorem isPending_set {s : State} {st x : StreamId} : (s.rw.pendingSet.set st.val true)[x.val]
    = if x = st then true else s.isPending x := by
  rw [Vector.getElem_set]
  by_cases h : x = st
  · simp [h]
  · have h' : st.val ≠ x.val := fun e => h (Fin.ext e.symm)
    rw [if_neg h', if_neg h]
    rfl

section
variable {s : State}

theorem isPending_pend_of_working (h : s.working) (st x : StreamId) :
    (pend st s).isPending x = if x = st then true else s.isPending x := by
  rw [pend_of_working st h]
  exact isPending_set

/-- One stream's standing changes, and the stream may be pended. -/
theorem moved_singleton {t : State} {f : Standing → Standing} {on : Standing → Bool} {st : StreamId}
    (h : t = if on (s.standing st) then pend st (s.setStanding st (f (s.standing st)))
      else s.setStanding st (f (s.standing st))) (hw : s.working) : Moved [st] f on s t := by
  have hctx : ∀ x, t.ctx x = (s.setStanding st (f (s.standing st))).ctx x := fun x => by
    rw [h]; split <;> simp
  refine ⟨?_, fun x hx => ?_, fun x hx => ?_⟩
  · rw [h]
    split
    · rw [pend_eq]; exact ⟨_, _, rfl⟩
    · exact ⟨_, s.rw.pendingSet, rfl⟩
  · obtain rfl := List.mem_singleton.mp hx
    refine ⟨(hctx x).trans (ctx_setCtx ..), ?_⟩
    rw [h]
    split
    · next hon =>
      rw [isPending_pend_of_working (s := s.setStanding x (f (s.standing x))) hw, hon]
      simp
    · next hon => simp only [Bool.not_eq_true] at hon; rw [hon]; simp [State.isPending]
  · have hne : x ≠ st := fun e => hx (e ▸ List.mem_singleton_self x)
    refine ⟨(hctx x).trans (ctx_setCtx_ne s hne _), ?_⟩
    rw [h]
    split
    · rw [isPending_pend_of_working (s := s.setStanding st (f (s.standing st))) hw, if_neg hne]; rfl
    · rfl

theorem Moved.cons {t u : State} {f : Standing → Standing} {on : Standing → Bool} {st : StreamId} {l : List StreamId}
    (hl : st ∉ l) (h : Moved [st] f on s t) (h' : Moved l f on t u) : Moved (st :: l) f on s u := by
  refine ⟨h.only.trans h'.only, fun x hx => ?_, fun x hx => ?_⟩
  · by_cases hxl : x ∈ l
    · have hne : x ∉ [st] := fun hm => hl (List.mem_singleton.mp hm ▸ hxl)
      obtain ⟨h1, h2⟩ := h.others x hne
      obtain ⟨h3, h4⟩ := h'.moved x hxl
      rw [h3, h4, State.standing, h1, h2]
      exact ⟨rfl, rfl⟩
    · obtain rfl := (List.mem_cons.mp hx).resolve_right hxl
      obtain ⟨h1, h2⟩ := h.moved x (List.mem_singleton_self x)
      obtain ⟨h3, h4⟩ := h'.others x hxl
      exact ⟨h3.trans h1, h4.trans h2⟩
  · obtain ⟨h1, h2⟩ := h.others x fun hm => hx (List.mem_cons.mpr (.inl (List.mem_singleton.mp hm)))
    obtain ⟨h3, h4⟩ := h'.others x fun hm => hx (List.mem_cons_of_mem _ hm)
    exact ⟨h3.trans h1, h4.trans h2⟩

/-- An operation that moves each stream it is applied to, applied to some streams in turn. -/
theorem moved_foldl {f : Standing → Standing} {on : Standing → Bool} {act : State → StreamId → State}
    (hact : ∀ s st, s.dc.device = .running → Moved [st] f on s (act s st)) {l : List StreamId} (hl : l.Nodup)
    (hd : s.dc.device = .running) : Moved l f on s (l.foldl act s) := by
  induction l generalizing s with
  | nil => exact ⟨.refl s, (fun _ h => nomatch h), fun _ _ => ⟨rfl, rfl⟩⟩
  | cons st l ih =>
    obtain ⟨hst, hl⟩ := List.nodup_cons.mp hl
    have h := hact s st hd
    exact h.cons hst (ih hl (by rw [h.only.dc]; exact hd))

theorem edgeForStream_eq (k : Lane) (e : Edge) (st : StreamId) : edgeForStream k e st s
    = if (s.standing st).starts k e then pend st (s.setStanding st ((s.standing st).edged k e))
      else s.setStanding st ((s.standing st).edged k e) := by
  have same : ∀ x, s.standing st = x → s = s.setStanding st x := fun x h => h ▸ (setStanding_standing s st).symm
  unfold edgeForStream
  split
  · next b o d h =>
    rw [h]
    by_cases hc : b.lane = k ∧ o.params.start = .edge ∧ senseMatches o.params.sense e = true
    · have hs : (Standing.bound b (.armed o d)).starts k e = true := by simpa [Standing.starts, and_assoc] using hc
      rw [if_pos hc, if_pos hs]
      simp only [enter, h, Standing.edged, hs, if_true]
    · have hs : ¬ (Standing.bound b (.armed o d)).starts k e = true := by simpa [Standing.starts, and_assoc] using hc
      rw [if_neg hc, if_neg hs]
      simp only [Standing.edged, hs]
      exact same _ h
  · next b o h =>
    simp only [h, Standing.starts, Standing.edged]
    split
    · simp [count, mapOrder, h, Standing.mapOrder, Phase.mapOrder]
    · exact same _ h
  all_goals
    next h =>
    simp only [h, Standing.starts, Standing.edged]
    exact same _ h

/-- In RUNNING an edge moves every stream. -/
theorem moved_takeEdge (hd : s.dc.device = .running) (k : Lane) (e : Edge) :
    Moved allStreams (Standing.edged k e) (Standing.starts k e) s (takeEdge k e s) := by
  rw [takeEdge, if_pos hd]
  refine moved_foldl (fun s st hd => moved_singleton (edgeForStream_eq k e st) (.inl hd)) (List.nodup_finRange _) hd

/-! ### The three outcomes of an edge at a stream -/

/-- What an edge did to a stream, seen from before and after it: it started an ARMED order, was counted ignored, or
did nothing. -/
theorem edge_outcomes {t : State} {k : Lane} {e : Edge} {st : StreamId}
    (h : t.standing st = (s.standing st).edged k e ∧ t.isPending st = (s.isPending st || (s.standing st).starts k e)) :
    (∃ b o d, s.standing st = .bound b (.armed o d) ∧ b.lane = k ∧ o.params.start = .edge
        ∧ senseMatches o.params.sense e = true ∧ t.standing st = .bound b (.capturing o) ∧ t.isPending st = true)
    ∨ (∃ b o, s.standing st = .bound b (.capturing o) ∧ b.lane = k
        ∧ t.standing st = .bound b (.capturing { o with
            counters := { o.counters with edgesIgnored := o.counters.edgesIgnored + 1 } })
        ∧ t.isPending st = s.isPending st)
    ∨ ((∀ b o d, s.standing st = .bound b (.armed o d) → b.lane = k → o.params.start = .edge →
          senseMatches o.params.sense e = false)
        ∧ (∀ b o, s.standing st = .bound b (.capturing o) → b.lane ≠ k)
        ∧ t.standing st = s.standing st ∧ t.isPending st = s.isPending st) := by
  obtain ⟨hst, hp⟩ := h
  by_cases harm : ∃ b o d, s.standing st = .bound b (.armed o d)
  · obtain ⟨b, o, d, hs⟩ := harm
    simp only [hs, Standing.edged] at hst hp
    by_cases hc : (Standing.bound b (.armed o d)).starts k e = true
    · rw [if_pos hc] at hst
      obtain ⟨⟨h1, h2⟩, h3⟩ : (b.lane = k ∧ o.params.start = .edge) ∧ senseMatches o.params.sense e = true := by
        simpa [Standing.starts] using hc
      exact .inl ⟨b, o, d, hs, h1, h2, h3, hst, by simp [hp, hc]⟩
    · rw [if_neg hc] at hst
      simp only [Bool.not_eq_true] at hc
      refine .inr (.inr ⟨fun b' o' d' hs' h1 h2 => ?_, fun b' o' hs' => ?_, hst.trans hs.symm, by simp [hp, hc]⟩)
      · obtain ⟨rfl, hph⟩ := Standing.bound.inj (hs.symm.trans hs')
        obtain ⟨rfl, rfl⟩ := Phase.armed.inj hph
        simpa [Standing.starts, h1, h2] using hc
      · rw [hs] at hs'; simp at hs'
  · by_cases hcap : ∃ b o, s.standing st = .bound b (.capturing o) ∧ b.lane = k
    · obtain ⟨b, o, hs, hk⟩ := hcap
      simp only [hs, Standing.edged, if_pos hk] at hst
      exact .inr (.inl ⟨b, o, hs, hk, hst, by simp [hp, hs, Standing.starts]⟩)
    · have hsame : (s.standing st).edged k e = s.standing st ∧ (s.standing st).starts k e = false := by
        cases hs : s.standing st with
        | idle => exact ⟨rfl, rfl⟩
        | bound b p =>
          cases p with
          | armed o d => exact absurd ⟨b, o, d, hs⟩ harm
          | capturing o => exact ⟨if_neg fun hk => hcap ⟨b, o, hs, hk⟩, rfl⟩
          | _ => exact ⟨rfl, rfl⟩
      rw [hsame.1] at hst
      rw [hsame.2, Bool.or_false] at hp
      exact .inr (.inr ⟨fun b o d hs => absurd ⟨b, o, d, hs⟩ harm, fun b o hs hk => hcap ⟨b, o, hs, hk⟩, hst, hp⟩)

theorem senseMatches_iff (sense : Byte) (e : Edge) : senseMatches sense e = true ↔
    sense.toNat = 3 ∨ (sense.toNat = 1 ∧ e = .rise) ∨ (sense.toNat = 2 ∧ e = .fall) := by
  have h (n : Nat) (hn : n < 256) : sense.toNat = n ↔ sense = BitVec.ofNat 8 n :=
    ⟨fun h => BitVec.eq_of_toNat_eq (by simp [h, Nat.mod_eq_of_lt hn]), fun h => by simp [h, Nat.mod_eq_of_lt hn]⟩
  rw [h 3 (by decide), h 1 (by decide), h 2 (by decide)]
  cases e <;> simp [senseMatches, or_comm]

/-! ### A trigger line that moves -/

theorem exec_triggerEdge (ha : s.awake) (k : Lane) (e : Edge) :
    exec (.triggerEdge k e) s = .next (sampleLine k (s.setLr k { s.lr k with line := decide (e = .rise) })) :=
  edgeLevel_eq e ▸ live_awake (s := moveLine k (edgeLevel e) s) _ ha

end

theorem ctx_standing {s t : State} {st : StreamId} {x : Standing} (h : t.ctx st = { s.ctx st with standing := x }) :
    t.ctx st = { s.ctx st with standing := t.standing st } := by
  rw [State.standing, h]

/-- Settles O22: the sample of a moved line, and an edge by its outcome at each stream. -/
theorem triggerEdgeIsTakenForEveryStreamOfTheLane : Obligations.TriggerEdgeIsTakenForEveryStreamOfTheLane := by
  unfold Obligations.TriggerEdgeIsTakenForEveryStreamOfTheLane
  refine ⟨senseMatches_iff, fun s k e ha h => ?_, fun s k e ha hl hs h => ?_, fun s k e ha hl hs h => ?_⟩
  · rw [exec_triggerEdge ha, sampleLine_none (by simpa using h)]
  · rw [exec_triggerEdge ha, sampleLine_level (by simp [hl, hs]) (by simpa using h)]
    simp
  · have hx : exec (.triggerEdge k e) s = .next (takeEdge k e (s.setLr k { s.lr k with
        line := decide (e = .rise), heldLevel := some (decide (e = .rise)), sampled := true })) := by
      rw [exec_triggerEdge ha, sampleLine_edge (by simp [hl, hs]) (by cases e <;> simpa using h)]
      cases e <;> simp [edgeTo]
    rw [hx]
    refine ⟨fun hd => congrArg _ (if_neg hd), fun hd => ⟨_, rfl, ?_⟩⟩
    have hm := moved_takeEdge (s := s.setLr k { s.lr k with
      line := decide (e = .rise), heldLevel := some (decide (e = .rise)), sampled := true }) hd k e
    refine ⟨hm.only.eq, fun st => ?_⟩
    obtain ⟨hctx, hp⟩ := hm.moved st (List.mem_finRange st)
    have hst := congrArg Context.standing hctx
    exact ⟨ctx_standing hctx, edge_outcomes (s := s.setLr k _) ⟨hst, hp⟩⟩

/-! ### The samples of a microsecond -/

/-- The edge that a receiver's sample of its line would make now (R113, R114). -/
def Receiver.edge? (r : Receiver) : Option Edge :=
  if r.lock = .off ∨ r.sampled = true then none
  else if r.heldLevel = some (!r.line) then some (edgeTo r.line) else none

/-- The receiver after it has had its sample in this microsecond. -/
def Receiver.sampledNow (r : Receiver) : Receiver :=
  if r.lock = .off ∨ r.sampled = true then r else { r with heldLevel := some r.line, sampled := true }

theorem edge?_eq_some_iff {r : Receiver} {e : Edge} : r.edge? = some e ↔ r.lock ≠ .off ∧ r.sampled = false
    ∧ r.heldLevel = some (decide (e = .fall)) ∧ r.line = decide (e = .rise) := by
  unfold Receiver.edge?
  by_cases h : r.lock = .off ∨ r.sampled = true
  · rw [if_pos h]
    have : ¬ (r.lock ≠ .off ∧ r.sampled = false) := by
      rintro ⟨h1, h2⟩
      simp [h1, h2] at h
    tauto
  · obtain ⟨h1, h2⟩ := not_or.mp h
    rw [if_neg h]
    have h2' : r.sampled = false := by simpa using h2
    simp only [h1, h2', ne_eq, not_false_eq_true, true_and]
    cases hl : r.line <;> cases e <;> simp [edgeTo]

section
variable {s t u : State}

/-- The edge that the sample of a lane makes at the SCT, which takes edges in RUNNING only. -/
def State.edgeAt (s : State) (k : Lane) : Option Edge := if s.dc.device = .running then (s.lr k).edge? else none

theorem sampleLine_eq (k : Lane) (s : State) : sampleLine k s =
    (s.edgeAt k).elim (s.setLr k (s.lr k).sampledNow) fun e => takeEdge k e (s.setLr k (s.lr k).sampledNow) := by
  by_cases h : (s.lr k).lock = .off ∨ (s.lr k).sampled = true
  · have he : s.edgeAt k = none := by simp [State.edgeAt, Receiver.edge?, h]
    have hr : (s.lr k).sampledNow = s.lr k := if_pos h
    rw [sampleLine_none h, he, hr, setLr_lr]
    rfl
  · have hr : (s.lr k).sampledNow = { s.lr k with heldLevel := some (s.lr k).line, sampled := true } := if_neg h
    rw [hr]
    by_cases hl : (s.lr k).heldLevel = some (!(s.lr k).line)
    · have he : (s.lr k).edge? = some (edgeTo (s.lr k).line) := by rw [Receiver.edge?, if_neg h, if_pos hl]
      rw [sampleLine_edge h hl, State.edgeAt]
      by_cases hd : s.dc.device = .running
      · rw [if_pos hd, he]; rfl
      · rw [if_neg hd]; exact if_neg hd
    · have he : s.edgeAt k = none := by simp [State.edgeAt, Receiver.edge?, h, hl]
      rw [he, sampleLine_level h ?_]
      · rfl
      · cases hh : (s.lr k).heldLevel with
        | none => exact .inl rfl
        | some v => exact .inr (by simpa [hh] using hl)

/-- What edges at the lanes make of a standing. -/
def Standing.sampled (f : Lane → Option Edge) : Standing → Standing
  | .idle => .idle
  | .bound b p => (f b.lane).elim (.bound b p) fun e => (Standing.bound b p).edged b.lane e

def Standing.startsBy (f : Lane → Option Edge) : Standing → Bool
  | .idle => false
  | .bound b p => (f b.lane).any fun e => (Standing.bound b p).starts b.lane e

/-- The edges `f` have been taken, and nothing but the streams, the pending set and the receivers differs. -/
structure Edged (f : Lane → Option Edge) (s t : State) : Prop where
  only : ∃ ctxs p rs, t = { s with streams := ctxs, receivers := rs, rw := { s.rw with pendingSet := p } }
  ctx : ∀ st, t.ctx st = { s.ctx st with standing := (s.standing st).sampled f }
  pending : ∀ st, t.isPending st = (s.isPending st || (s.standing st).startsBy f)

theorem sampled_none (x : Standing) : x.sampled (fun _ => none) = x := by cases x <;> rfl

theorem startsBy_none (x : Standing) : x.startsBy (fun _ => none) = false := by cases x <;> rfl

theorem Edged.lrOnly {rs : Vector Receiver 12} : Edged (fun _ => none) s { s with receivers := rs } :=
  ⟨⟨_, _, rs, rfl⟩, fun st => by rw [sampled_none]; rfl, fun st => by rw [startsBy_none, Bool.or_false]; rfl⟩

theorem Edged.standing {f : Lane → Option Edge} (h : Edged f s t) (st : StreamId) :
    t.standing st = (s.standing st).sampled f := congrArg Context.standing (h.ctx st)

/-- An edge leaves a stream bound where it was. -/
theorem edged_bound (k : Lane) (e : Edge) (b : Binding) (p : Phase) : ∃ q, (Standing.bound b p).edged k e = .bound b q := by
  cases p with
  | armed o d => unfold Standing.edged; dsimp only; split <;> exact ⟨_, rfl⟩
  | capturing o => unfold Standing.edged; dsimp only; split <;> exact ⟨_, rfl⟩
  | _ => exact ⟨_, rfl⟩

/-- Edges at distinct lanes, taken one after another. -/
theorem Edged.comp {f g : Lane → Option Edge} (hfg : ∀ k, f k = none ∨ g k = none) (h : Edged f s t)
    (h' : Edged g t u) : Edged (fun k => (f k).or (g k)) s u := by
  have key : ∀ x : Standing, (x.sampled f).sampled g = x.sampled (fun k => (f k).or (g k))
      ∧ (x.startsBy f || (x.sampled f).startsBy g) = x.startsBy (fun k => (f k).or (g k)) := fun x => by
    cases x with
    | idle => exact ⟨rfl, rfl⟩
    | bound b p =>
      cases hf : f b.lane with
      | none => simp [Standing.sampled, Standing.startsBy, hf]
      | some e =>
        have hg : g b.lane = none := (hfg b.lane).resolve_left (by simp [hf])
        obtain ⟨q, hq⟩ := edged_bound b.lane e b p
        simp [Standing.sampled, Standing.startsBy, hf, hg, hq]
  refine ⟨?_, fun st => ?_, fun st => ?_⟩
  · obtain ⟨_, _, _, rfl⟩ := h.only
    obtain ⟨a, b, c, rfl⟩ := h'.only
    exact ⟨a, b, c, rfl⟩
  · rw [h'.ctx, h.standing, (key _).1, h.ctx]
  · rw [h'.pending, h.standing, h.pending, Bool.or_assoc, (key _).2]

/-- One lane's sample. -/
theorem sampleLine_edged (k : Lane) (s : State) :
    Edged (fun j => if j = k then s.edgeAt k else none) s (sampleLine k s) := by
  have hr : Edged (fun _ => none) s (s.setLr k (s.lr k).sampledNow) := .lrOnly
  rw [sampleLine_eq]
  cases he : s.edgeAt k with
  | none => simpa using hr
  | some e =>
    have hd : s.dc.device = .running := by
      by_contra hd
      simp [State.edgeAt, hd] at he
    have hm := moved_takeEdge (s := s.setLr k (s.lr k).sampledNow) hd k e
    have h1 : Edged (fun j => if j = k then some e else none) (s.setLr k (s.lr k).sampledNow)
        (takeEdge k e (s.setLr k (s.lr k).sampledNow)) := by
      have key : ∀ x : Standing, x.edged k e = x.sampled (fun j => if j = k then some e else none)
          ∧ x.starts k e = x.startsBy (fun j => if j = k then some e else none) := fun x => by
        cases x with
        | idle => exact ⟨rfl, rfl⟩
        | bound b p =>
          by_cases hb : b.lane = k
          · simp [Standing.sampled, Standing.startsBy, hb]
          · simp only [Standing.sampled, Standing.startsBy, hb, if_false, Option.elim_none, Option.any_none]
            cases p <;> simp [Standing.edged, Standing.starts, hb]
      refine ⟨?_, fun st => ?_, fun st => ?_⟩
      · obtain ⟨a, b, h⟩ := hm.only
        exact ⟨a, b, _, h⟩
      · rw [(hm.moved st (List.mem_finRange st)).1, (key _).1]
      · rw [(hm.moved st (List.mem_finRange st)).2, (key _).2]
    simpa using hr.comp (fun _ => .inl rfl) h1

theorem sampleLine_lr (k : Lane) (s : State) (j : Lane) :
    (sampleLine k s).lr j = if j = k then (s.lr j).sampledNow else s.lr j := by
  have hset : (s.setLr k (s.lr k).sampledNow).lr j = if j = k then (s.lr j).sampledNow else s.lr j := by
    rw [lr_setLr_cases]; split
    · next h => rw [h]
    · rfl
  rw [sampleLine_eq, ← hset]
  cases he : s.edgeAt k with
  | none => rfl
  | some e =>
    have hd : s.dc.device = .running := by
      by_contra hd
      simp [State.edgeAt, hd] at he
    exact congrArg (fun x => x.lr j) (moved_takeEdge (s := s.setLr k (s.lr k).sampledNow) hd k e).only.eq

/-- The samples of some lanes in turn. -/
theorem sampleLines_edged {l : List Lane} (hl : l.Nodup) (s : State) :
    Edged (fun j => if j ∈ l then s.edgeAt j else none) s (l.foldl (fun s k => sampleLine k s) s)
      ∧ ∀ j, (l.foldl (fun s k => sampleLine k s) s).lr j = if j ∈ l then (s.lr j).sampledNow else s.lr j := by
  induction l generalizing s with
  | nil => exact ⟨by simpa using Edged.lrOnly (rs := s.receivers), fun j => by simp⟩
  | cons k l ih =>
    obtain ⟨hk, hl⟩ := List.nodup_cons.mp hl
    have h1 := sampleLine_edged k s
    have hdev : (sampleLine k s).dc = s.dc := by
      obtain ⟨_, _, _, h⟩ := h1.only
      rw [h]
    obtain ⟨h2, h3⟩ := ih hl (sampleLine k s)
    refine ⟨?_, fun j => ?_⟩
    · have hat : ∀ j ∈ l, (sampleLine k s).edgeAt j = s.edgeAt j := fun j hj => by
        have hne : j ≠ k := fun e => hk (e ▸ hj)
        simp only [State.edgeAt, hdev, sampleLine_lr, if_neg hne]
      have h := h1.comp (g := fun j => if j ∈ l then (sampleLine k s).edgeAt j else none) (fun j => ?_) h2
      · rw [List.foldl_cons]
        convert h using 1
        funext j
        by_cases hj : j = k
        · subst hj; simp [hk]
        · by_cases hjl : j ∈ l
          · simp [hj, hjl, hat j hjl]
          · simp [hj, hjl]
      · by_cases hj : j = k
        · subst hj; simp [hk]
        · simp [hj]
    · rw [List.foldl_cons, h3, sampleLine_lr]
      by_cases hj : j = k
      · subst hj; simp [hk]
      · simp [hj]

theorem newMicrosecond_sampledNow (r : Receiver) : r.sampledNow.newMicrosecond = { r with
    sampled := false
    heldLevel := if r.lock = .off ∨ r.sampled = true then r.heldLevel else some r.line } := by
  unfold Receiver.sampledNow Receiver.newMicrosecond
  split <;> rfl

/-- The state after a microsecond in which no edge was taken. -/
def State.passed (s : State) : State := { s with
  dc := { s.dc with timeBase := s.dc.timeBase + 1 }
  receivers := s.receivers.map fun r => { r with
    sampled := false
    heldLevel := if r.lock = .off ∨ r.sampled = true then r.heldLevel else some r.line } }

/-- A microsecond: the edges of all lanes are taken, and every receiver is ready for its next sample. -/
theorem tick_edged (ha : s.awake) : ∃ u, Edged s.edgeAt s u
    ∧ tick s = { s.passed with streams := u.streams, rw := { s.rw with pendingSet := u.rw.pendingSet } } := by
  obtain ⟨h1, h2⟩ := sampleLines_edged (l := allLanes) (List.nodup_finRange _) s
  have hall : ∀ j : Lane, j ∈ allLanes := List.mem_finRange
  simp only [hall, if_true] at h1 h2
  refine ⟨_, h1, ?_⟩
  have hr : s.dc.resetAsserted = false := ha
  have ht : tick s = { (allLanes.foldl (fun s k => sampleLine k s) s) with
      dc := { (allLanes.foldl (fun s k => sampleLine k s) s).dc with
        timeBase := (allLanes.foldl (fun s k => sampleLine k s) s).dc.timeBase + 1 }
      receivers := (allLanes.foldl (fun s k => sampleLine k s) s).receivers.map Receiver.newMicrosecond } :=
    if_neg (by simp [hr])
  rw [ht]
  generalize allLanes.foldl (fun s k => sampleLine k s) s = u at h1 h2
  have hrs : u.receivers.map Receiver.newMicrosecond = s.passed.receivers := by
    ext1 i hi
    have := h2 ⟨i, hi⟩
    simp only [State.lr] at this
    simp only [State.passed, Vector.getElem_map, this, newMicrosecond_sampledNow]
  obtain ⟨_, _, _, rfl⟩ := h1.only
  simp only [hrs]
  rfl

theorem streams_ext (h : ∀ st, t.ctx st = s.ctx st) : t.streams = s.streams := by
  ext1 i hi
  exact h ⟨i, hi⟩

theorem pendingSet_ext (h : ∀ st, t.isPending st = s.isPending st) : t.rw.pendingSet = s.rw.pendingSet := by
  ext1 i hi
  exact h ⟨i, hi⟩

/-- A stream after the edges of all lanes, by the edge at its own. -/
theorem edged_outcomes (hd : s.dc.device = .running) (h : Edged s.edgeAt s t) (st : StreamId) :
    (∃ b o d e, s.standing st = .bound b (.armed o d) ∧ (s.lr b.lane).edge? = some e ∧ o.params.start = .edge
        ∧ senseMatches o.params.sense e = true ∧ t.standing st = .bound b (.capturing o) ∧ t.isPending st = true)
    ∨ (∃ b o e, s.standing st = .bound b (.capturing o) ∧ (s.lr b.lane).edge? = some e
        ∧ t.standing st = .bound b (.capturing { o with
            counters := { o.counters with edgesIgnored := o.counters.edgesIgnored + 1 } })
        ∧ t.isPending st = s.isPending st)
    ∨ ((∀ b o d e, s.standing st = .bound b (.armed o d) → (s.lr b.lane).edge? = some e → o.params.start = .edge →
          senseMatches o.params.sense e = false)
        ∧ (∀ b o e, s.standing st = .bound b (.capturing o) → ¬ (s.lr b.lane).edge? = some e)
        ∧ t.standing st = s.standing st ∧ t.isPending st = s.isPending st) := by
  have hs := h.standing st
  have hp := h.pending st
  have hat : ∀ k, s.edgeAt k = (s.lr k).edge? := fun k => if_pos hd
  cases hst : s.standing st with
  | idle =>
    rw [hst] at hs hp
    exact .inr (.inr ⟨by simp, by simp, hs, by simpa [Standing.startsBy] using hp⟩)
  | bound b p =>
    rw [hst] at hs hp
    simp only [Standing.sampled, Standing.startsBy, hat] at hs hp
    cases he : (s.lr b.lane).edge? with
    | none =>
      rw [he] at hs hp
      refine .inr (.inr ⟨fun b' o d e h h' => ?_, fun b' o e h h' => ?_, hs, by simpa using hp⟩)
      all_goals
        obtain ⟨rfl, _⟩ := Standing.bound.inj h
        simp [he] at h'
    | some e =>
      rw [he] at hs hp
      obtain ⟨b', o, d, h1, h2, h3⟩ | ⟨b', o, h1, h2, h3⟩ | ⟨h1, h2, h3⟩ :=
        edge_outcomes (s := s) (t := t) (k := b.lane) (e := e) (st := st) ⟨by rw [hst]; exact hs, by rw [hst]; exact hp⟩
      · rw [hst] at h1
        obtain ⟨rfl, rfl⟩ := Standing.bound.inj h1
        exact .inl ⟨b, o, d, e, rfl, he, h3⟩
      · rw [hst] at h1
        obtain ⟨rfl, rfl⟩ := Standing.bound.inj h1
        exact .inr (.inl ⟨b, o, e, rfl, he, h3⟩)
      · rw [hst] at h1 h2 h3
        refine .inr (.inr ⟨fun b' o d e' h h' => ?_, fun b' o e' h h' => ?_, h3⟩)
        · obtain ⟨rfl, hq⟩ := Standing.bound.inj h
          obtain rfl := Option.some.inj (he.symm.trans h')
          exact h1 b o d (by rw [hq]) rfl
        · obtain ⟨rfl, hq⟩ := Standing.bound.inj h
          exact h2 b o (by rw [hq]) rfl

end

/-- Settles O2: the samples of all lanes in turn, each an edge at the streams bound to its lane. -/
theorem idleStepIsOneMicrosecond : Obligations.IdleStepIsOneMicrosecond := by
  unfold Obligations.IdleStepIsOneMicrosecond
  intro s ha hp
  have hstep : step s = .next (tick s) := by rw [step, hp]
  obtain ⟨u, hu, ht⟩ := tick_edged ha
  simp only [← edge?_eq_some_iff]
  rw [hstep, ht]
  refine ⟨fun h => ?_, fun hd => ⟨_, rfl, rfl, fun st => ⟨ctx_standing (hu.ctx st), edged_outcomes hd hu st⟩⟩⟩
  have hf : s.edgeAt = fun _ => none := by
    funext k
    rw [State.edgeAt, ite_eq_right_iff]
    intro hd
    cases he : (s.lr k).edge? with
    | none => rfl
    | some e => exact absurd he (h.resolve_left (not_not.mpr hd) k e)
  rw [hf] at hu
  have hs : u.streams = s.streams := streams_ext fun st => by rw [hu.ctx, sampled_none]; rfl
  have hps : u.rw.pendingSet = s.rw.pendingSet := pendingSet_ext fun st => by rw [hu.pending, startsBy_none, Bool.or_false]
  rw [hs, hps]
  rfl

end Sys2Proof.Machine

/-! PROOFS. RESET, the frame CRC and the gauges, the timers, and response timeouts (R30, R33, R76, R83, R101, R111,
R112, R119, R129 to R132, R145, R148, R170, R182). -/

namespace Sys2Proof.Machine

/-! ### Frames abandoned on entry to RESETTING and BROKEN -/

theorem abandon_eq_givenUp (r : Receiver) : r.abandon = r.givenUp := by
  unfold Receiver.abandon Receiver.givenUp
  cases r.frame with
  | none => rfl
  | some f => cases f <;> rfl

section
variable (s : State) (k : Lane)

theorem lw_abandonLanes : (abandonLanes s).lw k = (s.lw k).abandon (laneOutstanding k s) := by
  simp [abandonLanes, State.lw]

theorem abandon_idle (n : Nat) : Writer.idle.abandon n = .idle := by
  unfold Writer.abandon
  split <;> rfl

theorem abandon_zero (w : Writer) : w.abandon 0 = .idle := rfl

/-- A writer that awaits something drops its frame, with nothing to count and nothing to hand over. -/
theorem abandon_dropping {w : Writer} (hw : w ≠ .idle) {n : Nat} (hn : n ≠ 0) : ∃ d, w.abandon n = .dropping d
    ∧ d.outstanding = n ∧ d.countLost = false ∧ d.retirement = none := by
  unfold Writer.abandon
  rw [if_neg hn]
  cases w with
  | idle => exact absurd rfl hw
  | _ => exact ⟨_, rfl, rfl, rfl, rfl⟩

theorem laneOutstanding_eq : laneOutstanding k s = s.port.table.countP fun e => e.txn.ofLane k := by
  refine List.countP_congr fun e _ => ?_
  have hl : ∀ x : Lane, laneClient x = laneClient k ↔ x = k := fun x => ⟨laneClient_injective, congrArg _⟩
  have hr : reporterClient ≠ laneClient k := (laneClient_ne_reporterClient k).symm
  have hw : walkerClient ≠ laneClient k := fun h => by
    have h' : 12 = k.val := congrArg (·.val) h
    omega
  cases e.txn <;> simp [Txn.client, Txn.commitLane?, Txn.ofLane, hl, hr, hw]

end

/-- Settles O8: RESETTING is entered by abandoning every lane's frame and emptying the walker and the Report Writer. -/
theorem resetEntersResetting : Obligations.ResetEntersResetting := by
  unfold Obligations.ResetEntersResetting
  intro s ha
  have hx : exec .reset s = .next (controlReset s) := live_awake _ ha
  refine ⟨laneOutstanding_eq s, fun h => ?_, fun h => ?_⟩
  · rw [hx, controlReset, if_pos h]; rfl
  · rw [hx, controlReset, if_neg h]
    have hlr : ∀ k, ((enterResetting s).setResult .taken).lr k = (abandonLanes s).lr k := fun _ => rfl
    have hlw : ∀ k, ((enterResetting s).setResult .taken).lw k = (abandonLanes s).lw k := fun _ => rfl
    refine ⟨_, rfl, rfl, rfl, rfl, rfl, rfl, rfl, rfl, fun k => ?_, fun k => ?_⟩
    · rw [hlr, lr_abandonLanes, abandon_eq_givenUp]
    · rw [hlw, lw_abandonLanes]
      exact ⟨fun h => by rw [h, abandon_idle], fun _ h0 => by rw [h0, abandon_zero], fun hi h0 => abandon_dropping hi h0⟩

/-! ### The frame CRC and the gauges -/

theorem crcByte_eq_bits (r : Half) (b : Byte) : crcByte r b = ((List.range 8).map fun i => b.getLsbD (7 - i)).foldl
    (fun (r : Half) bit => if xor r.msb bit then (r <<< 1) ^^^ 0x1021#16 else r <<< 1) r := rfl

theorem addHeld_toNat (a : Word) (n : Nat) : (addHeld a n).toNat = min (a.toNat + n) 4294967295 := by
  unfold addHeld
  split
  · rw [BitVec.toNat_ofNat]; omega
  · rw [BitVec.toNat_allOnes]; omega

/-- Two bytes, the low one first, make one sample. -/
theorem gaugeByte_pair (kind : GaugeKind) (level : Half) {g : Gauging} (low high : Byte) (h : g.low = none) :
    gaugeByte kind level (gaugeByte kind level g low) high
      = { g with gauge := gaugeSample kind level g.gauge (high ++ low), low := none } := by
  simp [gaugeByte, h]

theorem sample_toNat (low high : Byte) : (high ++ low).toNat = low.toNat + 256 * high.toNat := by
  rw [BitVec.toNat_append, Nat.shiftLeft_eq, Nat.mul_comm, ← Nat.two_pow_add_eq_or_of_lt low.isLt]
  omega

theorem gaugeSample_sum (level : Half) (g : Word) (x : Half) :
    (gaugeSample .sum level g x).toNat = min (g.toNat + x.toNat) 4294967295 := addHeld_toNat g x.toNat

theorem gaugeSample_peak (level : Half) (g : Word) (x : Half) :
    (gaugeSample .peak level g x).toNat = max g.toNat x.toNat := by
  simp only [gaugeSample]
  split
  · rw [BitVec.toNat_setWidth_of_le (by decide)]; omega
  · omega

theorem gaugeSample_over (level : Half) (g : Word) (x : Half) : (gaugeSample .over level g x).toNat
    = if level.toNat < x.toNat then min (g.toNat + 1) 4294967295 else g.toNat := by
  simp only [gaugeSample]
  split
  · exact addHeld_toNat g 1
  · rfl

/-- Settles O23: a byte is its bits in turn, and two bytes are one sample. -/
theorem crcAndGauge : Obligations.CrcAndGauge := by
  unfold Obligations.CrcAndGauge
  refine ⟨fun bytes r => ?_, by decide +kernel, fun kind level g low high h => ?_⟩
  · induction bytes generalizing r with
    | nil => rfl
    | cons b bytes ih => rw [List.foldl_cons, ih, List.flatMap_cons, List.foldl_append, crcByte_eq_bits]
  · rw [gaugeByte_pair kind level low high h]
    refine ⟨rfl, rfl, ?_⟩
    rw [← sample_toNat]
    cases kind
    · exact gaugeSample_sum level g.gauge _
    · exact gaugeSample_peak level g.gauge _
    · exact gaugeSample_over level g.gauge _

/-! ### Timers -/

theorem reached_iff (now due : Time) : reached now due = true ↔ (now.toNat + 2 ^ 64 - due.toNat) % 2 ^ 64 < 2 ^ 63 := by
  simp only [reached, decide_eq_true_eq, BitVec.toNat_sub]
  rw [show 2 ^ 64 - due.toNat + now.toNat = now.toNat + 2 ^ 64 - due.toNat by have := due.isLt; omega]

/-- Settles O24: the retirement of a working part's ARMED order, written out. -/
theorem armDeadlineExpiryRetiresNoTrigger : Obligations.ArmDeadlineExpiryRetiresNoTrigger := by
  unfold Obligations.ArmDeadlineExpiryRetiresNoTrigger
  refine ⟨reached_iff, fun s st ha => ?_⟩
  have hx : exec (.armDeadlineExpiry st) s = .next (expireArm st s) := live_awake _ ha
  rw [hx]
  refine ⟨fun b o due hs hd hr => ?_, fun h => congrArg _ ?_⟩
  · have hp : ∀ x, pend st (s.setStanding st x) = _ := fun x =>
      pend_of_working st (s := s.setStanding st x) (.inl hd)
    simp only [expireArm, hs, hd, hr, and_self, if_true, retire, State.order?, Standing.order?, enter, hp]
    rfl
  · unfold expireArm
    split
    · next b o due hs =>
      refine if_neg fun hc => ?_
      rcases h b o due hs with h | h
      · exact h hc.1
      · rw [hc.2] at h; cases h
    all_goals rfl

/-- Jobs that are all ANCHOR jobs are known by their streams. -/
theorem anchorJobs_of_streams {q : List Job} {l : List StreamId} (hs : q.map Job.stream = l)
    (hk : ∀ j ∈ q, j.kind = .anchor) : q = l.map fun st => ⟨st, .anchor⟩ := by
  rw [← hs, List.map_map]
  refine (List.map_id q).symm.trans (List.map_congr_left fun j hj => ?_)
  show j = ⟨j.stream, .anchor⟩
  rw [← hk j hj]

/-- A sweep asks for every stream's attention (R33). -/
theorem attend_allStreams (s : State) : allStreams.foldl (fun s st => attend st s) s = { s with walker := { s.walker with
    queue := ((s.walker.queue.map Job.stream) ++ (allStreams.filter fun st =>
      !(s.walker.queue.map Job.stream).contains st)).map fun st => ⟨st, .anchor⟩ } } := by
  obtain ⟨h1, h2, h3⟩ := attend_fold allStreams (List.nodup_finRange _) s [] s.walker.queue (by simp) (by simp)
  rw [h1, anchorJobs_of_streams h2 fun j hj => (h3 j hj).1 (List.mem_finRange _)]
  rfl

/-- Settles O25: the sweep visits every stream, and a lane refresh makes one write a lane. -/
theorem periodicTimers : Obligations.PeriodicTimers := by
  unfold Obligations.PeriodicTimers
  intro s n due ha hn hd hr
  have hsw : exec .sweepExpiry s = .next (sweep s) := live_awake _ ha
  have hlr : exec .laneRefreshExpiry s = .next (refreshExpired s) := live_awake _ ha
  refine ⟨fun hdue hi => ?_, fun hdue => ⟨fun hu => ?_, fun hu => ?_⟩⟩
  · rw [hsw]
    simp only [sweep, hdue, hn, hd, hr, and_self, if_true, attend_allStreams, sweepFrom, hi, if_false, sweepPeriod,
      Nat.mul_comm 100]
  · rw [hlr]
    simp only [refreshExpired, hdue, hn, hd, hr, and_self, if_true, hu, if_false, refreshFrom, Nat.mul_comm 1000]
  · rw [hlr]
    simp only [refreshExpired, hdue, hn, hd, hr, and_self, if_true, hu, refreshFrom, Nat.mul_comm 1000]
    rfl

/-! ### Responses and their timeouts -/

section
variable {s : State}

/-- A response command that ends a transaction of the kind it names hands it to its meaning. -/
theorem live_answers {x : Txn} (h : Answers s x) {isKind : Txn → Bool} {act : Txn → State → State}
    (hk : isKind x = true) : live (respond x.client x.direction isKind act) s = .next (act x (s.ended x)) :=
  (live_awake _ h.awake).trans (congrArg _ (respond_answers act h hk))

/-- An error response is handed over as the port fault that its row takes (R129, R132). -/
theorem exec_faultRow {x : Txn} (h : Answers s x) : exec x.faultRow s = .next (portFault x (s.ended x)) := by
  cases x with
  | _ => exact live_answers h rfl

theorem expired_setExpired (c : Client) (d : Direction) (v : Byte) : (s.setExpired c d v).expired c d = v := by
  cases d <;> simp [State.setExpired, State.expired]

theorem expired_setExpired_ne {c c' : Client} {d d' : Direction} (h : c' ≠ c ∨ d' ≠ d) (v : Byte) :
    (s.setExpired c d v).expired c' d' = s.expired c' d' := by
  have hc : c' ≠ c → c.val ≠ c'.val := fun h e => h (Fin.ext e.symm)
  cases d <;> cases d' <;> simp [State.setExpired, State.expired] at h ⊢
  all_goals rw [Vector.getElem_set_ne _ _ (hc h)]

/-- A raised expired count and, at 255, a free value taken are all that a raise changes. -/
theorem raiseExpired_eq (c : Client) (d : Direction) : ∃ v i, raiseExpired c d s = { s.setExpired c d v with freeIndex := i }
    ∧ ((s.expired c d).toNat < 255 → v = s.expired c d + 1 ∧ i = s.freeIndex) := by
  unfold raiseExpired
  split
  · exact ⟨_, s.freeIndex, by cases d <;> rfl, fun _ => ⟨rfl, rfl⟩⟩
  · next h => exact ⟨_, _, rfl, fun h' => absurd h' h⟩

end

/-- Settles O26: a timeout is the error response of the oldest transaction, with its expired count raised. -/
theorem responseTimeoutIsAPortFault : Obligations.ResponseTimeoutIsAPortFault := by
  unfold Obligations.ResponseTimeoutIsAPortFault
  refine ⟨fun s t h => exec_faultRow h, fun s c d e ha ho => ?_⟩
  have hx : exec (.responseTimeout c d) s = .next (timeOut c d s) := live_awake _ ha
  rw [hx]
  refine ⟨fun h => by simp [timeOut, ho, h], fun h => ⟨raiseExpired c d (removeOldest c d s), by simp [timeOut, ho, h], ?_⟩⟩
  obtain ⟨v, i, heq, hv⟩ := raiseExpired_eq (s := removeOldest c d s) c d
  rw [heq]
  refine ⟨by cases d <;> rfl, ?_, fun hlt => ?_, fun c' d' hne => expired_setExpired_ne hne v⟩
  · have ht : (State.setExpired (removeOldest c d s) c d v).port.table = (removeOldest c d s).port.table := by
      cases d <;> rfl
    exact ht ▸ removeOldest_table ho
  · obtain ⟨rfl, rfl⟩ := hv hlt
    refine ⟨?_, rfl⟩
    have hex := expired_setExpired (s := removeOldest c d s) c d ((removeOldest c d s).expired c d + 1)
    refine (congrArg BitVec.toNat hex).trans ?_
    show (s.expired c d + 1).toNat = _
    rw [BitVec.toNat_add]
    simp
    omega

end Sys2Proof.Machine

/-! PROOFS. Symbols at a lane (R95, R97 to R99, R102, R115): what each does at a receiver that is OFF, HUNTING or
LOCKED, by the frame that is open. -/

namespace Sys2Proof.Machine

section
variable {s : State} {k : Lane}

/-- A command of the link does what its symbol does. -/
theorem exec_idleSymbol (ha : s.awake) : exec (.idleSymbol k) s = .next (idleSymbol k s) := live_awake _ ha
theorem exec_startSymbol (ha : s.awake) : exec (.startSymbol k) s = .next (startSymbol k s) := live_awake _ ha
theorem exec_endSymbol (ha : s.awake) : exec (.endSymbol k) s = .next (endSymbol k s) := live_awake _ ha
theorem exec_abortSymbol (ha : s.awake) : exec (.abortSymbol k) s = .next (abortSymbol k s) := live_awake _ ha
theorem exec_codeViolation (ha : s.awake) : exec (.codeViolation k) s = .next (codeViolation k s) := live_awake _ ha
theorem exec_dataByte (ha : s.awake) (b : Byte) : exec (.dataByte k b) s = .next (dataByte k b s) := live_awake _ ha

end

/-- Settles O14: the lock state is looked at first, whatever the symbol. -/
theorem huntingReceiverLocksAt32Idles : Obligations.HuntingReceiverLocksAt32Idles := by
  unfold Obligations.HuntingReceiverLocksAt32Idles
  intro s k ha
  refine ⟨fun run hl => ⟨?_, fun c hc => ?_, ?_⟩, fun v hl => ?_, fun hl c hc => ?_⟩
  · rw [exec_idleSymbol ha, idleSymbol]; simp only [hl]; rfl
  · rcases hc with rfl | rfl | rfl | ⟨b, rfl⟩
    · rw [exec_startSymbol ha, startSymbol]; simp only [hl]; rfl
    · rw [exec_endSymbol ha, endSymbol]; simp only [hl]; rfl
    · rw [exec_abortSymbol ha, abortSymbol]; simp only [hl]; rfl
    · rw [exec_dataByte ha, dataByte]; simp only [hl]; rfl
  · rw [exec_codeViolation ha, codeViolation]; simp only [hl]; rfl
  · rw [exec_idleSymbol ha, idleSymbol]; simp only [hl]
  · rcases hc with rfl | rfl | rfl | rfl | rfl | ⟨b, rfl⟩
    · rw [exec_idleSymbol ha, idleSymbol]; simp only [hl]
    · rw [exec_startSymbol ha, startSymbol]; simp only [hl]
    · rw [exec_endSymbol ha, endSymbol]; simp only [hl]
    · rw [exec_abortSymbol ha, abortSymbol]; simp only [hl]
    · rw [exec_codeViolation ha, codeViolation]; simp only [hl]
    · rw [exec_dataByte ha, dataByte]; simp only [hl]

/-! ### Symbols at a LOCKED receiver -/

section
variable {s : State} {k : Lane} {v : Nat} (hl : (s.lr k).lock = .locked v) {a : AcceptedFrame}
include hl

theorem startSymbol_none (h : (s.lr k).frame = none) : startSymbol k s = onLr k (Receiver.setFrame newFrame) s := by
  rw [startSymbol]; simp only [hl, h]

theorem endSymbol_none (h : (s.lr k).frame = none) : endSymbol k s = s := by
  rw [endSymbol]; simp only [hl, h]

theorem abortSymbol_none (h : (s.lr k).frame = none) : abortSymbol k s = s := by
  rw [abortSymbol]; simp only [hl, h]

theorem startSymbol_header {bytes : List Byte} {crc : Half} (h : (s.lr k).frame = some (.header bytes crc)) :
    startSymbol k s = onLr k (fun r => (r.bump LaneCounters.badHeader).setFrame newFrame) s := by
  rw [startSymbol]; simp only [hl, h]

theorem endSymbol_header {bytes : List Byte} {crc : Half} (h : (s.lr k).frame = some (.header bytes crc)) :
    endSymbol k s = onLr k (fun r => (r.bump LaneCounters.badHeader).setFrame none) s := by
  rw [endSymbol]; simp only [hl, h]

theorem abortSymbol_header {bytes : List Byte} {crc : Half} (h : (s.lr k).frame = some (.header bytes crc)) :
    abortSymbol k s = onLr k (fun r => (r.bump LaneCounters.sourceAbort).setFrame none) s := by
  rw [abortSymbol]; simp only [hl, h]

theorem endSymbol_body (h : (s.lr k).frame = some (.body a)) :
    endSymbol k s = onLr k (Receiver.setFrame (some (.crc a none))) s := by
  rw [endSymbol]; simp only [hl, h]

/-- START inside a dispatched frame's body or CRC phase opens a new frame, and loses the open one. -/
theorem startSymbol_cuts (h : (s.lr k).frame = some (.body a) ∨ ∃ first, (s.lr k).frame = some (.crc a first)) :
    startSymbol k s = startCuts k a s := by
  rw [startSymbol]
  rcases h with h | ⟨first, h⟩ <;> simp only [hl, h]

theorem abortSymbol_cuts (h : (s.lr k).frame = some (.body a) ∨ ∃ first, (s.lr k).frame = some (.crc a first)) :
    abortSymbol k s = abortCuts k a s := by
  rw [abortSymbol]
  rcases h with h | ⟨first, h⟩ <;> simp only [hl, h]

theorem endSymbol_crc {first : Option Byte} (h : (s.lr k).frame = some (.crc a first)) :
    endSymbol k s = frameChecks k a true s := by
  rw [endSymbol]
  simp only [hl, h]

theorem codeViolation_locked : codeViolation k s = if v + 1 = 4
    then loseOpen k (s.lr k).frame .linkLost (s.setLr k { s.lr k with
      lock := .hunting 0, frame := none
      counters := { (s.lr k).counters with
        codeViolations := (s.lr k).counters.codeViolations + 1, lockLosses := (s.lr k).counters.lockLosses + 1 } })
    else loseOpen k (s.lr k).frame .violation (s.setLr k { s.lr k with
      lock := .locked (v + 1), frame := none
      counters := { (s.lr k).counters with codeViolations := (s.lr k).counters.codeViolations + 1 } }) := by
  rw [codeViolation]
  simp only [hl]
  rfl

end

/-- Only an offered frame is lost with the receiver's frame. -/
theorem loseOpen_notOffered {k : Lane} {x : Option OpenFrame} (h : ∀ a, x = some (.body a) ∨ (∃ first, x = some (.crc a first)) →
    ∀ g, a.disposition ≠ .offered g) (why : LossReason) (s : State) : loseOpen k x why s = s := by
  have lose : ∀ a : AcceptedFrame, (∀ g, a.disposition ≠ .offered g) → loseIfOffered k a why s = s := fun a ha => by
    unfold loseIfOffered
    split
    · next g hg => exact absurd hg (ha g)
    all_goals rfl
  unfold loseOpen
  split
  · next a => exact lose a (h a (.inl rfl))
  · next a first => exact lose a (h a (.inr ⟨first, rfl⟩))
  all_goals rfl

/-- Settles O15: a frame that is not offered is nobody's to lose, and a discarded one raises no counter. -/
theorem symbolsOutsideTheOfferedFrame : Obligations.SymbolsOutsideTheOfferedFrame := by
  unfold Obligations.SymbolsOutsideTheOfferedFrame
  intro s k v ha hl
  rw [exec_startSymbol ha, exec_endSymbol ha, exec_abortSymbol ha, exec_codeViolation ha]
  refine ⟨fun hf => ⟨?_, ?_, ?_⟩, fun bytes crc hf => ⟨?_, ?_, ?_⟩, fun a hf => ?_, fun a hf => ⟨fun hd => ⟨?_, ?_⟩, fun hd => ⟨?_, ?_⟩⟩,
    fun a first hf hd hr => ?_, fun h => ⟨fun hv => ?_, fun hv => ?_⟩⟩
  · rw [startSymbol_none hl hf]; rfl
  · rw [endSymbol_none hl hf]
  · rw [abortSymbol_none hl hf]
  · rw [startSymbol_header hl hf]; rfl
  · rw [endSymbol_header hl hf]; rfl
  · rw [abortSymbol_header hl hf]; rfl
  · rw [endSymbol_body hl hf]; rfl
  · rw [startSymbol_cuts hl hf, startCuts, loseIfOffered, AcceptedFrame.dispatched, hd]; rfl
  · rw [abortSymbol_cuts hl hf, abortCuts, loseIfOffered, AcceptedFrame.dispatched, hd]; rfl
  · rw [startSymbol_cuts hl hf, startCuts, loseIfOffered, AcceptedFrame.dispatched, hd]; rfl
  · rw [abortSymbol_cuts hl hf, abortCuts, loseIfOffered, AcceptedFrame.dispatched, hd]; rfl
  · rw [endSymbol_crc hl hf, frameChecks, AcceptedFrame.dispatched, hd]
    simp only [hr]
    simp [onLr, countIf, LaneCounters.checkFailure]
  · rw [codeViolation_locked hl, if_neg hv, loseOpen_notOffered h]
  · rw [codeViolation_locked hl, if_pos hv, loseOpen_notOffered h]

/-! ### The loss of the offered frame -/

section
variable {s : State} {k : Lane}

/-- Staging that stops at a receiver that stages no open frame is only emptied. -/
theorem stopStaging_setLr {r : Receiver} (h : r.frame.map (OpenFrame.mapFrame AcceptedFrame.stopStaging) = r.frame) :
    stopStaging k (s.setLr k r) = s.setLr k { r with staging := Staging.empty } := by
  simp only [stopStaging, lr_setLr, setLr_setLr, h]

/-- A receiver that loses its offered frame to a symbol: the frame is closed, or a new one opened, and the Lane Writer
is told of the loss. -/
theorem exec_loses {v : Nat} {a : AcceptedFrame} {g : Gauging} {c : Instr} {after : Receiver} (ha : s.awake)
    (hl : (s.lr k).lock = .locked v)
    (hf : (s.lr k).frame = some (.body a) ∨ ∃ first, (s.lr k).frame = some (.crc a first)) (hd : a.disposition = .offered g)
    (hc : c = .startSymbol k ∧ after = { s.lr k with
        frame := some (.header [] 0xFFFF#16), staging := Staging.empty
        counters := { (s.lr k).counters with lengthErrors := (s.lr k).counters.lengthErrors + 1 } }
      ∨ c = .abortSymbol k ∧ after = { s.lr k with
        frame := none, staging := Staging.empty
        counters := { (s.lr k).counters with sourceAborts := (s.lr k).counters.sourceAborts + 1 } }
      ∨ c = .codeViolation k ∧ v + 1 ≠ 4 ∧ after = { s.lr k with
        frame := none, staging := Staging.empty, lock := .locked (v + 1)
        counters := { (s.lr k).counters with codeViolations := (s.lr k).counters.codeViolations + 1 } }
      ∨ c = .codeViolation k ∧ v + 1 = 4 ∧ after = { s.lr k with
        frame := none, staging := Staging.empty, lock := .hunting 0
        counters := { (s.lr k).counters with
          codeViolations := (s.lr k).counters.codeViolations + 1
          lockLosses := (s.lr k).counters.lockLosses + 1 } }) :
    (∃ why, exec c s = .next (reportLoss k why (s.setLr k { after with staging := (s.lr k).staging })))
      ∧ after.staging = Staging.empty
      ∧ after.frame.map (OpenFrame.mapFrame AcceptedFrame.stopStaging) = after.frame := by
  have hopen : ∀ why x, loseOpen k (s.lr k).frame why x = reportLoss k why x := fun why x => by
    rcases hf with hf | ⟨first, hf⟩ <;> simp only [loseOpen, hf, loseIfOffered, hd]
  rcases hc with ⟨rfl, rfl⟩ | ⟨rfl, rfl⟩ | ⟨rfl, hv, rfl⟩ | ⟨rfl, hv, rfl⟩
  · refine ⟨⟨.lengthByStart, ?_⟩, rfl, rfl⟩
    rw [exec_startSymbol ha, startSymbol_cuts hl hf, startCuts, loseIfOffered, AcceptedFrame.dispatched, hd]
    rfl
  · refine ⟨⟨.sourceAbort, ?_⟩, rfl, rfl⟩
    rw [exec_abortSymbol ha, abortSymbol_cuts hl hf, abortCuts, loseIfOffered, AcceptedFrame.dispatched, hd]
    rfl
  · refine ⟨⟨.violation, ?_⟩, rfl, rfl⟩
    rw [exec_codeViolation ha, codeViolation_locked hl, if_neg hv, hopen]
  · refine ⟨⟨.linkLost, ?_⟩, rfl, rfl⟩
    rw [exec_codeViolation ha, codeViolation_locked hl, if_pos hv, hopen]

end

/-- Settles O16: whatever the symbol, the Lane Writer is told of a loss, and what it does depends on its state. -/
theorem laneLossDropsTheOfferedFrame : Obligations.LaneLossDropsTheOfferedFrame := by
  unfold Obligations.LaneLossDropsTheOfferedFrame
  intro s k v a g c after ha hw hl hf hd r n hc
  obtain ⟨⟨why, hx⟩, hst, hfr⟩ := exec_loses ha hl hf hd hc
  have hstop : stopStaging k (s.setLr k { after with staging := r.staging }) = s.setLr k after := by
    rw [stopStaging_setLr (r := { after with staging := r.staging }) hfr]
    obtain ⟨_, _, _, _, _, _, _⟩ := after
    simp only at hst
    rw [hst]
  rw [hx]
  generalize hy : s.setLr k { after with staging := r.staging } = y at hstop
  have hlw : y.lw k = s.lw k := by rw [← hy]; rfl
  have hyw : y.working := by rw [← hy]; exact hw
  have hys : ∀ st, y.standing st = s.standing st := fun st => by rw [← hy]; rfl
  refine ⟨fun h => by rw [reportLoss_noFrame why (by rwa [hlw])], fun f b halting o hs hh => ⟨fun slot read h => ?_,
    fun slot read h => ?_, fun p h => ⟨fun h0 => ?_, fun h0 => ?_⟩⟩⟩
  · rw [reportLoss_searching why ((hys _).trans hs) (fun h => ⟨hh h, hyw⟩) (hlw.trans h), hstop]; rfl
  · rw [reportLoss_searching why ((hys _).trans hs) (fun h => ⟨hh h, hyw⟩) (hlw.trans h), hstop]; rfl
  · rw [reportLoss_bound why hyw ((hys _).trans hs) hh (by rwa [hlw]), hstop, if_pos h0]
  · rw [reportLoss_bound why hyw ((hys _).trans hs) hh (by rwa [hlw]), hstop, if_neg h0]

end Sys2Proof.Machine

/-! PROOFS. Header bytes and frame starts (R24, R25, R57, R82, R85, R95, R100, R104, R105, R115). -/

namespace Sys2Proof.Machine

/-! ### The fields of a header -/

/-- The low half of a concatenation counts once, the high half by its weight. -/
theorem append_toNat {m n : Nat} (a : BitVec m) (b : BitVec n) : (a ++ b).toNat = b.toNat + 2 ^ n * a.toNat := by
  rw [BitVec.toNat_append, Nat.shiftLeft_eq, Nat.mul_comm, ← Nat.two_pow_add_eq_or_of_lt b.isLt, Nat.add_comm]

theorem reservedSet_iff (b0 b7 : Byte) : (b0 >>> 3 != 0 || b7 != 0) = true ↔ ¬ (b0.toNat < 8 ∧ b7 = 0) := by
  have h : b0 >>> 3 = 0 ↔ b0.toNat < 8 := by
    rw [← BitVec.toNat_inj, BitVec.toNat_ushiftRight, Nat.shiftRight_eq_div_pow]
    simp
  simp only [Bool.or_eq_true, bne_iff_ne, ne_eq, h]
  tauto

theorem accepted_iff (h : FrameHeader) : h.accepted = true ↔ h.reservedSet = false ∧ h.declared.toNat % 2 = 0
    ∧ 2 ≤ h.declared.toNat ∧ h.declared.toNat ≤ 4194304 := by
  simp only [FrameHeader.accepted, Bool.and_eq_true, Bool.not_eq_true', beq_iff_eq, decide_eq_true_eq, and_assoc]
  exact Iff.rfl

/-- What eight header bytes say. -/
theorem parseFrameHeader_fields (b0 b1 b2 b3 b4 b5 b6 b7 : Byte) : ∃ h,
    parseFrameHeader [b0, b1, b2, b3, b4, b5, b6, b7] = some h
    ∧ h.tag.val = b0.toNat % 4 ∧ h.mark = b0.getLsbD 2
    ∧ h.sourceNumber.toNat = b1.toNat + 256 * b2.toNat
    ∧ h.declared.toNat = b3.toNat + 256 * b4.toNat + 65536 * b5.toNat + 16777216 * b6.toNat
    ∧ (h.accepted = true ↔ b0.toNat < 8 ∧ b7 = 0 ∧ h.declared.toNat % 2 = 0
        ∧ 2 ≤ h.declared.toNat ∧ h.declared.toNat ≤ 4194304) := by
  refine ⟨_, rfl, rfl, rfl, append_toNat _ _, ?_, ?_⟩
  · simp only [append_toNat]; omega
  · rw [accepted_iff, ← Bool.not_eq_true]
    simp only [reservedSet_iff]
    tauto

theorem length_of_parseFrameHeader {l : List Byte} {h : FrameHeader} (hp : parseFrameHeader l = some h) : l.length = 8 := by
  unfold parseFrameHeader at hp
  split at hp
  · rfl
  · simp at hp

/-! ### Header bytes -/

section
variable {s : State} {k : Lane} {v : Nat} (hl : (s.lr k).lock = .locked v)
include hl

theorem dataByte_none (h : (s.lr k).frame = none) (b : Byte) : dataByte k b s = s := by
  rw [dataByte]; simp only [hl, h]

theorem dataByte_header {bytes : List Byte} {crc : Half} (h : (s.lr k).frame = some (.header bytes crc)) (b : Byte) :
    dataByte k b s = headerByte k bytes crc b s := by
  rw [dataByte]; simp only [hl, h]

end

section
variable {s : State} {k : Lane} {bytes : List Byte} {crc : Half} {b : Byte}

theorem headerByte_more (h : bytes.length < 7) :
    headerByte k bytes crc b s = onLr k (Receiver.setFrame (some (.header (bytes ++ [b]) (crcByte crc b)))) s := by
  have hlen : (bytes ++ [b]).length < 8 := by simp; omega
  rw [headerByte]
  exact if_pos hlen

theorem headerByte_last {h : FrameHeader} (hp : parseFrameHeader (bytes ++ [b]) = some h) :
    headerByte k bytes crc b s = if h.accepted then acceptHeader k h (crcByte crc b) s
      else onLr k (fun r => (r.bump LaneCounters.badHeader).setFrame none) s := by
  have hlen : ¬ (bytes ++ [b]).length < 8 := by rw [length_of_parseFrameHeader hp]; omega
  rw [headerByte, if_neg hlen, hp]

end

/-- Settles O17: the eighth byte completes the header, which is then judged. -/
theorem headerBytes : Obligations.HeaderBytes := by
  unfold Obligations.HeaderBytes
  refine ⟨parseFrameHeader_fields, fun s k v b ha hl => ?_⟩
  rw [exec_dataByte ha]
  refine ⟨fun hf => by rw [dataByte_none hl hf], fun bytes crc hf => ?_⟩
  rw [dataByte_header hl hf]
  refine ⟨fun h => by rw [headerByte_more h]; rfl, fun h hp => ⟨fun hn => ?_, fun hacc hd => ?_⟩⟩
  · rw [headerByte_last hp, if_neg (by simp [hn])]; rfl
  · rw [headerByte_last hp, if_pos hacc, acceptHeader, if_neg hd]; rfl

/-! ### Frame starts -/

section
variable {s : State} {k : Lane}

/-- Two updates of different parts of the state. -/
theorem setLr_setCtx (r : Receiver) (st : StreamId) (c : Context) :
    (s.setLr k r).setCtx st c = (s.setCtx st c).setLr k r := rfl

/-- An accepted header in RUNNING is dispatched: the stream that holds the pair answers. -/
theorem acceptHeader_running (hd : s.dc.device = .running) (h : FrameHeader) (crc : Half) :
    acceptHeader k h crc s = onLr k (fun lr => { lr with
        frame := some (.body (acceptedFrame h crc (frameStart k h s).1.disposition))
        counters := { lr.counters with
          framesStarted := lr.counters.framesStarted + 1
          unbound := if (frameStart k h s).1 = .unbound then lr.counters.unbound + 1 else lr.counters.unbound } })
      (frameStart k h s).2 := if_pos hd

theorem frameStart_unbound {h : FrameHeader} (hn : ∀ st, holdsPair k h.tag s st = false) :
    frameStart k h s = (.unbound, s) := by
  have : allStreams.find? (holdsPair k h.tag s) = none := List.find?_eq_none.mpr fun st _ => by simp [hn st]
  rw [frameStart, this]

section
variable {h : FrameHeader} {st : StreamId} (hf : allStreams.find? (holdsPair k h.tag s) = some st) {bd : Binding}
include hf

theorem frameStart_unclaimed {p : Phase} (hs : s.standing st = .bound bd p) (ha : ∀ o d, p ≠ .armed o d)
    (hc : ∀ o, p ≠ .capturing o) : frameStart k h s = (.notOffered, unclaim st s) := by
  rw [frameStart, hf]
  simp only [hs]
  cases p with
  | armed o d => exact absurd rfl (ha o d)
  | capturing o => exact absurd rfl (hc o)
  | _ => rfl

theorem frameStart_passedOver {o : CurrentOrder} {d : Option Time} (hs : s.standing st = .bound bd (.armed o d))
    (hm : o.params.start ≠ .mark ∨ h.mark = false) :
    frameStart k h s = (.notOffered, count st (fun c => { c with passedOver := c.passedOver + 1 }) s) := by
  rw [frameStart, hf]
  simp only [hs]
  refine if_neg fun hc => ?_
  rcases hm with hm | hm
  · exact hm hc.1
  · rw [hm] at hc; cases hc.2

/-- A met frame: the stream is CAPTURING, or its ARMED MARK order starts with the frame. -/
theorem frameStart_met {o : CurrentOrder} {p : Phase} (hd : s.dc.device = .running) (hs : s.standing st = .bound bd p)
    (hp : p = .capturing o ∨ ∃ d, p = .armed o d ∧ o.params.start = .mark ∧ h.mark = true) :
    frameStart k h s = meetFrame st o k h ((if p = .capturing o then s
      else { s with rw := { s.rw with pendingSet := s.rw.pendingSet.set st.val true } }).setStanding st
        (.bound bd (.capturing o))) := by
  rw [frameStart, hf]
  rcases hp with rfl | ⟨d, rfl, hm⟩
  · simp only [hs, if_true]
    rw [← hs, setStanding_standing]
  · simp only [hs, if_pos hm, reduceCtorEq, if_false]
    rw [enter, hs]
    exact congrArg _ (pend_of_working st (s := s.setStanding st (.bound bd (.capturing o))) (.inl hd))

end

theorem meet_thinned {o : CurrentOrder} (h : o.thinPhase ≠ 0) : o.meet = { o with
    counters := { o.counters with met := o.counters.met + 1, thinned := o.counters.thinned + 1 }
    thinPhase := (o.thinPhase + 1) % o.params.thin } := by
  simp only [CurrentOrder.meet, h, if_false]

theorem meet_selected {o : CurrentOrder} (h : o.thinPhase = 0) : o.meet = { o with
    counters := { o.counters with met := o.counters.met + 1 }
    thinPhase := (o.thinPhase + 1) % o.params.thin } := by
  simp only [CurrentOrder.meet, h, if_true]

/-- A frame start of a CAPTURING stream, by its thinning phase and its Lane Writer. -/
theorem meetFrame_eq {st : StreamId} {o : CurrentOrder} {h : FrameHeader} {bd : Binding}
    (hs : s.standing st = .bound bd (.capturing o)) : meetFrame st o k h s =
      if o.thinPhase ≠ 0 then (.notOffered, s.setStanding st (.bound bd (.capturing o.meet)))
      else if s.lw k = .idle then (.offered, (s.setStanding st (.bound bd (.capturing o.meet))).setLw k
        (.searching ⟨st, h.sourceNumber, h.mark, none, false, false, false⟩ o.cursor 0 false))
      else (.notOffered, s.setStanding st (.bound bd (.capturing o.meet.oneLost))) := by
  have hm : mapOrder st CurrentOrder.meet s = s.setStanding st (.bound bd (.capturing o.meet)) := by
    rw [mapOrder, hs]; rfl
  have hc : count st Counters.addLost (s.setStanding st (.bound bd (.capturing o.meet)))
      = s.setStanding st (.bound bd (.capturing o.meet.oneLost)) := by
    rw [count, mapOrder, standing_setStanding, setStanding_setStanding]; rfl
  rw [meetFrame, hm, hc]
  rfl

theorem started_notOffered {h : FrameHeader} (crc : Half) {x : State} (hd : s.dc.device = .running)
    (hx : frameStart k h s = (.notOffered, x)) : acceptHeader k h crc s = onLr k (fun lr => { lr with
        frame := some (.body (acceptedFrame h crc .followed))
        counters := { lr.counters with framesStarted := lr.counters.framesStarted + 1 } }) x := by
  rw [acceptHeader_running hd, hx]; rfl

theorem started_offered {h : FrameHeader} (crc : Half) {x : State} (hd : s.dc.device = .running)
    (hx : frameStart k h s = (.offered, x)) : acceptHeader k h crc s = onLr k (fun lr => { lr with
        frame := some (.body (acceptedFrame h crc (.offered ⟨0, none, true⟩)))
        counters := { lr.counters with framesStarted := lr.counters.framesStarted + 1 } }) x := by
  rw [acceptHeader_running hd, hx]; rfl

end

theorem holdsPair_of_bound {s : State} {st : StreamId} {bd : Binding} {p : Phase} {k : Lane} {tag : Tag}
    (hs : s.standing st = .bound bd p) (hl : bd.lane = k) (ht : bd.tag = tag) : holdsPair k tag s st = true := by
  rw [holdsPair_eq_any, hs]
  simp [Standing.binding?, Binding.isPair, hl, ht]

/-- Settles O18: the one stream that holds the pair answers by its phase, and a met frame by its thinning phase and
the Lane Writer. -/
theorem frameStartIsClassed : Obligations.FrameStartIsClassed := by
  unfold Obligations.FrameStartIsClassed
  intro s k v b bytes crc h ha hd hl hf hp hacc
  have hx : exec (.dataByte k b) s = .next (acceptHeader k h (crcByte crc b) s) := by
    rw [exec_dataByte ha, dataByte_header hl hf, headerByte_last hp, if_pos hacc]
  rw [hx]
  refine ⟨fun hn => ?_, fun st bd p hs hlane htag huniq => ?_⟩
  · rw [acceptHeader_running hd, frameStart_unbound hn]; rfl
  · have hfind := find_holder (holdsPair_of_bound hs hlane htag) huniq
    refine ⟨fun ha hc => ?_, fun o d hph hm => ?_, fun o hph => ⟨fun h0 => ?_, fun h0 hi => ?_, fun h0 hi => ?_⟩⟩
    · rw [started_notOffered _ hd (frameStart_unclaimed hfind hs ha hc)]; rfl
    · subst hph
      rw [started_notOffered _ hd (frameStart_passedOver hfind hs hm), count, mapOrder, hs]; rfl
    all_goals
      have hmet := frameStart_met hfind hd hs hph
      generalize hs' : (if p = .capturing o then s
        else { s with rw := { s.rw with pendingSet := s.rw.pendingSet.set st.val true } }) = s' at hmet ⊢
      rw [meetFrame_eq (standing_setStanding s' st (.bound bd (.capturing o)))] at hmet
      simp only [setStanding_setStanding] at hmet
      have hlw : (s'.setStanding st (.bound bd (.capturing o))).lw k = s.lw k := by rw [← hs']; split <;> rfl
      have hlr : s'.lr k = s.lr k := by rw [← hs']; split <;> rfl
      simp only [← hlr]
    · rw [if_pos h0] at hmet
      rw [started_notOffered _ hd hmet, meet_thinned h0]
      rfl
    · rw [if_neg (not_not.mpr h0), hlw, if_pos hi] at hmet
      rw [started_offered _ hd hmet, meet_selected h0]
      rfl
    · rw [if_neg (not_not.mpr h0), hlw, if_neg hi] at hmet
      rw [started_notOffered _ hd hmet, meet_selected h0]
      rfl

end Sys2Proof.Machine

/-! PROOFS. Payload bytes and the checks at a frame's end (R19, R60, R62 to R66, R98, R101 to R103, R105, R106, R108,
R109, R111, R117). -/

namespace Sys2Proof.Machine

section
variable {s : State} {k : Lane} {v : Nat} (hl : (s.lr k).lock = .locked v) {a : AcceptedFrame}
include hl

theorem dataByte_body (h : (s.lr k).frame = some (.body a)) (b : Byte) : dataByte k b s = payloadByte k a b s := by
  rw [dataByte]; simp only [hl, h]

theorem dataByte_crcFirst (h : (s.lr k).frame = some (.crc a none)) (b : Byte) :
    dataByte k b s = onLr k (Receiver.setFrame (some (.crc a (some b)))) s := by
  rw [dataByte]; simp only [hl, h]

theorem dataByte_crcSecond {low : Byte} (h : (s.lr k).frame = some (.crc a (some low))) (b : Byte) :
    dataByte k b s = frameChecks k a (decide (b ++ low ≠ a.crc)) s := by
  rw [dataByte]; simp only [hl, h]

end

/-! ### Payload bytes -/

/-- The frame with one payload byte more. -/
def AcceptedFrame.heard (a : AcceptedFrame) (b : Byte) (d : Disposition) : AcceptedFrame :=
  { a with received := a.received + 1, crc := crcByte a.crc b, disposition := d }

section
variable {s : State} {k : Lane} {a : AcceptedFrame} {b : Byte}

theorem payloadByte_notOffered (h : a.disposition = .discarded ∨ a.disposition = .followed) :
    payloadByte k a b s = onLr k (Receiver.setFrame (some (.body (a.heard b a.disposition)))) s := by
  unfold payloadByte
  rcases h with h | h <;> simp only [h] <;> simp only [AcceptedFrame.heard, ← h]

theorem gaugeAt_snapshot {n : Snapshot} (hn : s.dc.snapshot = some n) (g : Gauging) :
    gaugeAt k s g b = gaugeByte n.lanes[k.val].gauge n.lanes[k.val].overLevel g b := by
  simp only [gaugeAt, State.laneConfig?, hn, Option.map_some]

theorem payloadByte_offered {g : Gauging} {n : Snapshot} (hd : a.disposition = .offered g) (hn : s.dc.snapshot = some n) :
    let x := a.heard b (.offered (gaugeByte n.lanes[k.val].gauge n.lanes[k.val].overLevel g b))
    let s' := s.setLr k { s.lr k with frame := some (.body x) }
    payloadByte k a b s = if g.staging = true then stageByte k x b s' else s' := by
  intro x s'
  unfold payloadByte
  simp only [hd, gaugeAt_snapshot hn]
  rfl

theorem stageByte_room {x : AcceptedFrame} (hr : (s.lr k).staging.hasRoom = true) : stageByte k x b s
    = if pastPage k s = true then markTruncated k s else s.setLr k { s.lr k with
        staging := { (s.lr k).staging with bytes := (s.lr k).staging.bytes ++ [b] } } := by
  unfold stageByte
  exact if_pos hr

theorem stageByte_full {x : AcceptedFrame} (hr : (s.lr k).staging.hasRoom = false) : stageByte k x b s
    = reportLoss k .overflow (s.setLr k { s.lr k with
        frame := some (.body { x with disposition := .followed })
        counters := { (s.lr k).counters with overflows := (s.lr k).counters.overflows + 1 } }) := by
  unfold stageByte
  exact if_neg (by simp [hr])

/-- A receiver whose open frame is followed has nothing staged to stop. -/
theorem stopStaging_setLr_followed {r : Receiver} (h : r.frame = some (.body { a with disposition := .followed })) :
    stopStaging k (s.setLr k r) = s.setLr k { r with staging := Staging.empty } :=
  stopStaging_setLr (by rw [h]; rfl)

theorem pastPage_searching {f : FlightFrame} {slot read : Nat} {issued : Bool}
    (h : s.lw k = .searching f slot read issued) : pastPage k s = false := by
  simp only [pastPage, h]

end

/-- Settles O19: the byte is heard, and, while the frame is staged, staged if there is room. -/
theorem payloadBytes : Obligations.PayloadBytes := by
  unfold Obligations.PayloadBytes
  intro s k v b a ha hl hf
  rw [exec_dataByte ha, dataByte_body hl hf]
  refine ⟨fun hd => ?_, fun g n c hd hn hc => ?_⟩
  · rw [payloadByte_notOffered hd]; rfl
  · subst hc
    have hpay := payloadByte_offered (s := s) (k := k) (b := b) hd hn
    refine ⟨fun hg => ?_, fun f slot read issued hw => ⟨fun hg hroom => ?_, fun hg hfull bd halting o hs hh => ?_⟩⟩
    · rw [hpay, if_neg (by simp [hg])]; rfl
    · have hpast : ∀ r, pastPage k (s.setLr k r) = false := fun r => pastPage_searching (s := s.setLr k r) hw
      rw [hpay, if_pos hg, stageByte_room (by rw [lr_setLr]; exact hasRoom_of_lt hroom), if_neg (by rw [hpast]; simp),
        lr_setLr, setLr_setLr]
      rfl
    · have hloss := fun r => reportLoss_searching (s := s.setLr k r) .overflow hs hh hw
      rw [hpay, if_pos hg, stageByte_full (by rw [lr_setLr]; exact hasRoom_of_eq hfull), lr_setLr, setLr_setLr, hloss,
        stopStaging_setLr_followed rfl]
      rfl

/-! ### The checks at a frame's end -/

/-- A command that ends a frame in its CRC phase has it checked. -/
theorem exec_checks {s : State} {k : Lane} {v : Nat} {a : AcceptedFrame} {c : Instr} {check : Bool} (ha : s.awake)
    (hl : (s.lr k).lock = .locked v)
    (h : (∃ low high, (s.lr k).frame = some (.crc a (some low)) ∧ c = .dataByte k high
          ∧ check = decide (a.crc.toNat ≠ low.toNat + 256 * high.toNat))
        ∨ ((∃ first, (s.lr k).frame = some (.crc a first)) ∧ c = .endSymbol k ∧ check = true)) :
    exec c s = .next (frameChecks k a check s) := by
  rcases h with ⟨low, high, hf, rfl, rfl⟩ | ⟨⟨first, hf⟩, rfl, rfl⟩
  · rw [exec_dataByte ha, dataByte_crcSecond hl hf]
    congr 3
    rw [← sample_toNat, ne_eq, ne_eq, BitVec.toNat_inj, eq_comm (a := a.crc)]
  · rw [exec_endSymbol ha, endSymbol_crc hl hf]

/-- The receiver once the frame has been checked: closed, and its violation count cleared by a good end. -/
def Receiver.checked (r : Receiver) (v : Nat) (check length : Bool) : Receiver :=
  { r with frame := none, lock := if check = false ∧ length = false then .locked 0 else .locked v }

/-- The failures of a dispatched frame counted as well. -/
def Receiver.judged (r : Receiver) (v : Nat) (check length : Bool) : Receiver :=
  { r.checked v check length with counters := { r.counters with
    checkFailures := if check then r.counters.checkFailures + 1 else r.counters.checkFailures
    lengthErrors := if length then r.counters.lengthErrors + 1 else r.counters.lengthErrors } }

section
variable {s : State} {k : Lane} {v : Nat} (hl : (s.lr k).lock = .locked v) {a : AcceptedFrame} (check : Bool)
include hl

theorem frameChecks_discarded (hd : a.disposition = .discarded) : frameChecks k a check s
    = s.setLr k ((s.lr k).checked v check (decide (a.received ≠ a.declared.toNat))) := by
  rw [frameChecks, AcceptedFrame.dispatched, hd]
  generalize decide (a.received ≠ a.declared.toNat) = length
  cases check <;> cases length <;> simp only [onLr, hl] <;> rfl

theorem frameChecks_followed (hd : a.disposition = .followed) : frameChecks k a check s
    = s.setLr k ((s.lr k).judged v check (decide (a.received ≠ a.declared.toNat))) := by
  rw [frameChecks, AcceptedFrame.dispatched, hd]
  generalize decide (a.received ≠ a.declared.toNat) = length
  cases check <;> cases length <;> simp only [onLr, hl] <;> rfl

theorem frameChecks_offered {g : Gauging} (hd : a.disposition = .offered g) :
    let length := decide (a.received ≠ a.declared.toNat)
    let x := s.setLr k ((s.lr k).judged v check length)
    frameChecks k a check s = if (check = true ∨ length = true) ∧ checkPolicy k s = .dropBad
      then reportLoss k (.checks check length) x else reportEnd k ⟨g.gauge, check, length⟩ x := by
  intro length x
  have hx : x = onLr k (fun r => { r with
      frame := none
      lock := if check || length then r.lock else .locked 0
      counters := countIf (true && check) LaneCounters.checkFailure
        (countIf (true && length) LaneCounters.lengthError r.counters) }) s := by
    simp only [x]
    generalize length = length
    cases check <;> cases length <;> simp only [onLr, hl] <;> rfl
  rw [hx, frameChecks, AcceptedFrame.dispatched, hd]
  simp only [Bool.or_eq_true]
  rfl

end

theorem checkPolicy_snapshot {s : State} {n : Snapshot} (hn : s.dc.snapshot = some n) (k : Lane) :
    checkPolicy k s = n.lanes[k.val].policy := by
  simp only [checkPolicy, State.laneConfig?, hn, Option.map_some]

section
variable {s : State} {k : Lane} {v : Nat} (hl : (s.lr k).lock = .locked v) {a : AcceptedFrame} {check length : Bool}
  {g : Gauging} {n : Snapshot}
include hl

/-- An offered frame that passes its checks, or fails them where bad frames are kept, is reported ended. -/
theorem frameChecks_kept (hd : a.disposition = .offered g) (hn : s.dc.snapshot = some n)
    (hlen : length = decide (a.received ≠ a.declared.toNat))
    (h : (check = false ∧ length = false) ∨ n.lanes[k.val].policy = .keepBad) : frameChecks k a check s
      = reportEnd k ⟨g.gauge, check, length⟩ (s.setLr k ((s.lr k).judged v check length)) := by
  subst hlen
  have hno : ¬ ((check = true ∨ decide (a.received ≠ a.declared.toNat) = true) ∧ checkPolicy k s = .dropBad) := by
    rw [checkPolicy_snapshot hn]
    rcases h with ⟨h1, h2⟩ | h
    · rw [h1, h2]; simp
    · rw [h]; simp
  rw [frameChecks_offered hl check hd, if_neg hno]

/-- An offered frame that fails a check where bad frames are dropped is reported lost. -/
theorem frameChecks_dropped (hd : a.disposition = .offered g) (hn : s.dc.snapshot = some n)
    (hlen : length = decide (a.received ≠ a.declared.toNat)) (h : check = true ∨ length = true)
    (hp : n.lanes[k.val].policy = .dropBad) : frameChecks k a check s
      = reportLoss k (.checks check length) (s.setLr k ((s.lr k).judged v check length)) := by
  subst hlen
  have hyes : (check = true ∨ decide (a.received ≠ a.declared.toNat) = true) ∧ checkPolicy k s = .dropBad :=
    ⟨h, (checkPolicy_snapshot hn k).trans hp⟩
  rw [frameChecks_offered hl check hd, if_pos hyes]

end

/-- Settles O20: the frame closes as its checks say, and the Lane Writer of an offered one is told of its end or its
loss. -/
theorem frameChecksAtTheEnd : Obligations.FrameChecksAtTheEnd := by
  unfold Obligations.FrameChecksAtTheEnd
  intro s k v a ha hl
  refine ⟨fun b hf => by rw [exec_dataByte ha, dataByte_crcFirst hl hf]; rfl, fun c check hc => ?_⟩
  rw [exec_checks ha hl hc]
  refine ⟨fun hd => by rw [frameChecks_discarded hl check hd]; rfl,
    fun hd => by rw [frameChecks_followed hl check hd]; rfl, fun g hd hw => ?_,
    fun g sn f slot read issued hd hn hw => ⟨fun h => ?_, fun h hp bd halting o hs hh => ?_⟩⟩
  · rw [frameChecks_offered hl check hd, reportLoss_noFrame (s := s.setLr k _) _ hw,
      reportEnd_noFrame (s := s.setLr k _) _ hw, ite_self]
    rfl
  · rw [frameChecks_kept hl hd hn rfl h, reportEnd]
    simp only [setLr_lw, hw]
    rfl
  · have hloss := fun why r => reportLoss_searching (s := s.setLr k r) why hs hh hw
    rw [frameChecks_dropped hl hd hn rfl h hp, hloss, stopStaging_setLr rfl]
    rfl

/-! ### The offered frame of a bound writer -/

/-- A byte past the page end, by the bytes issued and staged (R64, R109). -/
theorem pastPage_bound {s : State} {k : Lane} {f : FlightFrame} {p : Placement} {o : CurrentOrder}
    (hw : s.lw k = .placing f p ∨ s.lw k = .closing f p) (ho : s.order? f.stream = some o) :
    pastPage k s = decide (256 * 2 ^ o.params.sizeCode ≤ p.offset + (s.lr k).staging.bytes.length) := by
  rcases hw with hw | hw <;> simp only [pastPage, hw, ho] <;> rfl

theorem order?_of_current {s : State} {st : StreamId} {b : Binding} {halting : Bool} {o : CurrentOrder}
    (hs : s.standing st = .bound b (.current halting o)) : s.order? st = some o := by
  rw [State.order?, hs, order?_current]

/-- A PLACING writer closes when its page is full, or its frame has ended and nothing is left to issue (R63, R66). -/
theorem advance_placing {s : State} {k : Lane} {f : FlightFrame} {p : Placement} {o : CurrentOrder}
    (hw : s.lw k = .placing f p) (ho : s.order? f.stream = some o) : advance k s =
      if p.offset = 256 * 2 ^ o.params.sizeCode ∨ (f.ended.isSome ∧ (s.lr k).staging.bytes = [])
        then frameDecision k (s.setLw k (.closing f p)) else s := by
  simp only [advance, hw, ho]
  rfl

/-- The end of a bound frame is taken in CLOSING, which a PLACING writer with nothing left to issue enters. -/
theorem reportEnd_bound {s : State} {k : Lane} {f : FlightFrame} {p : Placement} {closing : Bool} {o : CurrentOrder}
    {e : FrameEnd} (hw : s.lw k = if closing then .closing f p else .placing f p) (ho : s.order? f.stream = some o) :
    reportEnd k e s = if closing = true ∨ p.offset = 256 * 2 ^ o.params.sizeCode ∨ (s.lr k).staging.bytes = []
      then frameDecision k (s.setLw k (.closing { f with ended := some e } p))
      else s.setLw k (.placing { f with ended := some e } p) := by
  cases closing with
  | true =>
    have hw' : s.lw k = .closing f p := hw
    simp only [reportEnd, hw', true_or, if_true]
  | false =>
    have hw' : s.lw k = .placing f p := hw
    simp only [reportEnd, hw']
    rw [advance_placing (lw_setLw ..) (by exact ho), setLw_setLw]
    simp

/-- Settles O21: a byte is staged, passed or loses the frame, and the end is judged, reported and decided. -/
theorem boundFramePayloadAndEnd : Obligations.BoundFramePayloadAndEnd := by
  unfold Obligations.BoundFramePayloadAndEnd
  intro s k v a g n f p closing bd halting o ha hwk hl hd hn hs hh writer hw r staged size lost
  have ho := order?_of_current hs
  have hbound : ∀ r', (s.setLr k r').lw k = .placing f p ∨ (s.setLr k r').lw k = .closing f p := fun r' => by
    cases hc : closing <;> simp only [writer, hc] at hw
    · exact .inl hw
    · exact .inr hw
  have hloss := fun why r' => reportLoss_bound (s := s.setLr k r') why hwk hs hh (hbound r')
  refine ⟨fun b hf => ?_, fun first c check hf hc => ?_⟩
  · have hpay := payloadByte_offered (s := s) (k := k) (b := b) hd hn
    rw [exec_dataByte ha, dataByte_body hl hf, hpay]
    refine ⟨fun hg => by rw [if_neg (by simp [hg])]; rfl, fun hg hroom => ?_, fun hg hfull => ?_⟩
    · have hpast := fun r' => pastPage_bound (s := s.setLr k r') (o := o) (hbound r') ho
      rw [if_pos hg, stageByte_room (by rw [lr_setLr]; exact hasRoom_of_lt hroom), hpast, lr_setLr, setLr_setLr]
      refine ⟨fun h => ?_, fun h => ?_⟩
      · rw [if_neg (by simpa using h)]; rfl
      · rw [if_pos (by simpa using h), markTruncated]
        cases hcl : closing <;> simp only [writer, hcl] at hw ⊢ <;> simp only [setLr_lw, hw] <;> rfl
    · rw [if_pos hg, stageByte_full (by rw [lr_setLr]; exact hasRoom_of_eq hfull), lr_setLr, setLr_setLr, hloss,
        stopStaging_setLr_followed rfl]
      rfl
  · have hx : exec c s = .next (frameChecks k a check s) := exec_checks ha hl (by
      rcases hc with ⟨low, high, rfl, h⟩ | h
      · exact .inl ⟨low, high, hf, h⟩
      · exact .inr ⟨⟨first, hf⟩, h⟩)
    rw [hx]
    refine ⟨fun h => ?_, fun h hp => ?_⟩
    · rw [frameChecks_kept hl hd hn rfl h]
      generalize hx : s.setLr k _ = x
      have hxw : x.lw k = writer f := by rw [← hx]; exact hw
      have hxo : x.order? f.stream = some o := by rw [← hx]; exact ho
      have hxs : (x.lr k).staging = r.staging := by rw [← hx, lr_setLr]; rfl
      rw [reportEnd_bound hxw hxo, hxs, ← hx]
      exact ⟨fun h => congrArg _ (if_pos h), fun h1 h2 h3 => by rw [if_neg (by simp [h1, h2, h3, staged, size])]; rfl⟩
    · rw [frameChecks_dropped hl hd hn rfl h hp, hloss, stopStaging_setLr rfl]
      rfl

end Sys2Proof.Machine

/-! PROOFS. Grants (R123 to R126, R130, R131, R133): what makes a request eligible, which one the arbiter chooses, and
what its issue leaves in the port. -/

namespace Sys2Proof.Machine

section
variable {s : State} {c : Client} {x : Txn}

/-! ### Eligibility -/

theorem grantsAllowed_iff (d : DeviceState) : grantsAllowed d = true ↔
    d = .off ∨ (∃ l, d = .loading l) ∨ d = .running ∨ d = .quiescing ∨ d = .quiet := by
  cases d <;> simp [grantsAllowed]

theorem outstanding_eq (d : Direction) (s : State) :
    outstanding d s = (s.port.table.filter fun e => e.txn.direction = d).length := by
  rw [outstanding, List.countP_eq_length_filter]
  congr 2

theorem below_limit_iff (x : Txn) (s : State) : outstanding x.direction s < outstandingLimit x.direction ↔
    (x.direction = .read → (s.port.table.filter fun e => e.txn.direction = .read).length < 4)
      ∧ (x.direction = .write → (s.port.table.filter fun e => e.txn.direction = .write).length < 16) := by
  rw [outstanding_eq]
  cases x.direction <;> simp [outstandingLimit, Config.maxReads, Config.maxWrites]

theorem eligible_iff : eligible c s = some x ↔ request c s = some x
    ∧ (s.dc.device = .off ∨ (∃ l, s.dc.device = .loading l) ∨ s.dc.device = .running
      ∨ s.dc.device = .quiescing ∨ s.dc.device = .quiet)
    ∧ (x.direction = .read → (s.port.table.filter fun e => e.txn.direction = .read).length < 4)
    ∧ (x.direction = .write → (s.port.table.filter fun e => e.txn.direction = .write).length < 16)
    ∧ (s.expired c x.direction).toNat < 255 := by
  have key : eligible c s = some x ↔ request c s = some x ∧ grantsAllowed s.dc.device = true
      ∧ outstanding x.direction s < outstandingLimit x.direction ∧ (s.expired c x.direction).toNat < 255 := by
    unfold eligible
    cases request c s with
    | none => simp
    | some y =>
      by_cases h : grantsAllowed s.dc.device = true ∧ outstanding y.direction s < outstandingLimit y.direction
          ∧ (s.expired c y.direction).toNat < 255
      · simp only [if_pos h, Option.some.injEq]
        constructor
        · rintro rfl; exact ⟨rfl, h⟩
        · exact fun h => h.1
      · simp only [if_neg h, Option.some.injEq, reduceCtorEq, false_iff]
        rintro ⟨rfl, h'⟩
        exact h h'
  rw [key, grantsAllowed_iff, below_limit_iff, and_assoc]

/-! ### Quanta and timeouts -/

theorem quantum_lane {n : Snapshot} (hn : s.dc.snapshot = some n) (k : Lane) :
    quantumBytes (laneClient k) s = 64 * n.lanes[k.val].quantum := by
  have hk : (laneClient k).val < 12 := k.isLt
  simp only [quantumBytes, hn, hk, dif_pos]
  rfl

theorem quantum_walker {n : Snapshot} (hn : s.dc.snapshot = some n) : quantumBytes walkerClient s = 64 * n.walkerQuantum := by
  simp only [quantumBytes, hn]
  rfl

theorem quantum_reporter {n : Snapshot} (hn : s.dc.snapshot = some n) :
    quantumBytes reporterClient s = 64 * n.reporterQuantum := by
  simp only [quantumBytes, hn]
  rfl

theorem timeoutOf_snapshot {n : Snapshot} (hn : s.dc.snapshot = some n) (hx : ∀ a, x ≠ .headerRead a) :
    timeoutOf x s = n.responseTimeout.toNat := by
  have hh : x.isHeaderRead = false := by
    cases x with
    | headerRead a => exact absurd rfl (hx a)
    | _ => rfl
  simp only [timeoutOf, hh, hn, Bool.false_eq_true, if_false]

/-! ### A grant -/

/-- The entry that a request granted now makes in the table (R130). -/
def State.due (s : State) (x : Txn) : Entry := ⟨x, s.now + BitVec.ofNat 64 (timeoutOf x s)⟩

theorem issue_port (p : MemoryPort) : (issue x { s with port := p }).port
    = { p with table := p.table ++ [s.due x], issuePoint := some x } := clientIssued_port x _

theorem issue_rw (p : MemoryPort) (h : x.client = reporterClient) :
    (issue x { s with port := p }).rw = { s.rw with queue := s.rw.queue.tail } := clientIssued_rw x _ h

/-- The arbiter's choice is issued. -/
theorem grantOne_arbitrated {p : MemoryPort} (hi : s.port.issuePoint = none) (ha : arbitrate s = some (c, p))
    (he : eligible c s = some x) : grantOne s = issue x { s with port := p } := by
  simp [grantOne, hi, ha, he]

/-- The arbiter chooses an eligible request, and moves its own pointers and deficits only. -/
theorem arbitrate_some {p : MemoryPort} (ha : arbitrate s = some (c, p)) : (∃ x, eligible c s = some x)
    ∧ p = { s.port with deficits := p.deficits, position := p.position, urgentPointer := p.urgentPointer } := by
  unfold arbitrate at ha
  split at ha
  · next k hk =>
    obtain ⟨rfl, rfl⟩ := Prod.mk.inj (Option.some.inj ha)
    have h := List.find?_some hk
    simp only [Bool.and_eq_true] at h
    exact ⟨Option.isSome_iff_exists.mp h.2, rfl⟩
  · obtain ⟨r, hr, h⟩ := Option.map_eq_some_iff.mp ha
    obtain ⟨rfl, rfl⟩ := Prod.mk.inj h
    refine ⟨?_, rfl⟩
    have helig : (eligibleSize s r.1).isSome := by
      unfold roundRobin at hr
      split at hr
      · exact arrive_elig _ _ _ _ _ _ hr
      · next c _ =>
        split at hr
        · exact arrive_elig _ _ _ _ _ _ hr
        · next hs =>
          split at hr
          · obtain rfl := Option.some.inj hr
            simp [hs]
          · exact arrive_elig _ _ _ _ _ _ hr
    simpa [eligibleSize, Option.isSome_iff_exists] using helig

/-- With quanta and request sizes in range the arbiter chooses whenever something is eligible (R63, R126). -/
theorem arbitrate_isSome (hq : ∀ c, 64 ≤ quantumBytes c s) (hsz : ∀ c x, eligible c s = some x → x.size ≤ 256)
    (he : ∃ c x, eligible c s = some x) : ∃ c p, arbitrate s = some (c, p) := by
  obtain ⟨c, x, hx⟩ := he
  have hsize : eligibleSize s c = some x.size := by rw [eligibleSize, hx]; rfl
  have harr : ∀ c0 d, ∃ r, arrive (eligibleSize s) (fun c => quantumBytes c s) arriveFuel c0 d = some r := fun c0 d => by
    have h1 := c.isLt
    have h2 := c0.isLt
    have h3 := hsz c x hx
    refine arrive_some _ _ hq c x.size hsize _ c0 d 3 ((c.val + 14 - c0.val) % 14) ?_ ?_ ?_ ?_
    · omega
    · omega
    · omega
    · simp only [arriveFuel]; omega
  unfold arbitrate
  split
  · exact ⟨_, _, rfl⟩
  · have : ∃ r, roundRobin (eligibleSize s) (fun c => quantumBytes c s) s.port.position s.port.deficits = some r := by
      unfold roundRobin
      split
      · exact harr _ _
      · split
        · exact harr _ _
        · split
          · exact ⟨_, rfl⟩
          · exact harr _ _
    obtain ⟨r, hr⟩ := this
    exact ⟨r.1, _, by rw [hr]; rfl⟩

theorem grantOne_idle (h : s.port.issuePoint.isSome = true ∨ ∀ c, eligible c s = none) : grantOne s = s := by
  obtain hg | ⟨c, x, p, hx, _, hg⟩ := grantOne_cases s
  · exact hg
  · rcases h with h | h
    · simp [grantOne, h]
    · simp [h c] at hx

end

/-- Settles O27: the arbiter always chooses, its choice is eligible, and eligibility is R123's and R133's conditions. -/
theorem grantIssuesAnEligibleRequest : Obligations.GrantIssuesAnEligibleRequest := by
  unfold Obligations.GrantIssuesAnEligibleRequest
  intro s ha
  have hx : exec .grant s = .next (grantOne s) := live_awake _ ha
  rw [hx]
  refine ⟨fun hi hq hsz he => ?_, fun h => by rw [grantOne_idle (.inl h)], fun _ h => by rw [grantOne_idle (.inr h)],
    fun c t => eligible_iff, fun hn c => ?_, fun n hn => ⟨quantum_lane hn, quantum_walker hn, quantum_reporter hn,
      fun t => timeoutOf_snapshot hn⟩, fun a => rfl⟩
  · obtain ⟨c, p, hc⟩ := arbitrate_isSome hq hsz he
    obtain ⟨⟨x, hx⟩, hp⟩ := arbitrate_some hc
    refine ⟨c, x, _, congrArg _ (grantOne_arbitrated hi hc hx), hx, ?_⟩
    rw [issue_port, hp]
    exact ⟨rfl, rfl, rfl, rfl, issue_rw _⟩
  · simp [quantumBytes, hn, Config.resetQuantum]

end Sys2Proof.Machine

/-! PROOFS. The arbiter's two stages (R124, R125). -/

namespace Sys2Proof.Machine

/-! ### The walk of deficit round-robin -/

section
variable {sizes : Client → Option Nat} {quanta : Client → Nat}

/-- What a walk of `i` clients from `first` on that ends in a grant of `size` bytes to `c` makes of the deficits. -/
structure Walked (sizes : Client → Option Nat) (quanta : Client → Nat) (first i : Nat) (c : Client) (size : Nat)
    (d d' : Vector Nat 14) : Prop where
  granted : d'[c.val] = d[c.val] + quanta c - size
  passed : ∀ x : Client, x ≠ c → (∃ j, j < i ∧ x.val = (first + j) % 14) →
    d'[x.val] = if sizes x = none then 0 else d[x.val] + quanta x
  others : ∀ x : Client, x ≠ c → (∀ j, j < i → x.val ≠ (first + j) % 14) → d'[x.val] = d[x.val]

theorem getElem_set_client {d : Vector Nat 14} {x y : Client} {v : Nat} :
    (d.set x.val v)[y.val] = if y = x then v else d[y.val] := by
  rw [Vector.getElem_set]
  by_cases h : y = x
  · simp [h]
  · have h' : x.val ≠ y.val := fun e => h (Fin.ext e.symm)
    rw [if_neg h', if_neg h]

/-- Of two walks that agree but for the value of the client passed first, the longer is the shorter after it. -/
theorem Walked.cons {first i : Nat} {a c : Client} {size v : Nat} {d d' : Vector Nat 14} (hi : i + 1 < 14)
    (ha : a.val = first % 14) (hc : c.val = (first + (i + 1)) % 14)
    (hv : v = if sizes a = none then 0 else d[a.val] + quanta a)
    (h : Walked sizes quanta (first + 1) i c size (d.set a.val v) d') : Walked sizes quanta first (i + 1) c size d d' := by
  have hca : c ≠ a := fun e => by rw [e] at hc; omega
  refine ⟨?_, fun x hx hj => ?_, fun x hx hj => ?_⟩
  · have := h.granted
    rwa [getElem_set_client, if_neg hca] at this
  · by_cases hxa : x = a
    · subst hxa
      have := h.others x hx fun j hj e => by omega
      rw [this, getElem_set_client, if_pos rfl, hv]
    · obtain ⟨j, hj, hxj⟩ := hj
      have hj0 : j ≠ 0 := fun e => hxa (Fin.ext (by rw [hxj, ha, e, Nat.add_zero]))
      have := h.passed x hx ⟨j - 1, by omega, by rw [hxj]; congr 1; omega⟩
      rw [this, getElem_set_client, if_neg hxa]
  · have hxa : x ≠ a := fun e => hj 0 (by omega) (by rw [e, ha, Nat.add_zero])
    have := h.others x hx fun j hj' e => hj (j + 1) (by omega) (by rw [e]; congr 1; omega)
    rw [this, getElem_set_client, if_neg hxa]

/-- The walk passes clients whose request does not fit, or that have none, and grants the first that fits. -/
theorem arrive_walk {i first : Nat} {c0 c : Client} {size fuel : Nat} {d : Vector Nat 14} (hi : i < 14)
    (h0 : c0.val = first % 14) (hc : c.val = (first + i) % 14) (hs : sizes c = some size)
    (hfit : size ≤ d[c.val] + quanta c)
    (hno : ∀ (j : Nat) (x : Client) (y : Nat), j < i → x.val = (first + j) % 14 → sizes x = some y →
      d[x.val] + quanta x < y) (hf : i < fuel) :
    ∃ d', arrive sizes quanta fuel c0 d = some (c, d') ∧ Walked sizes quanta first i c size d d' := by
  induction i generalizing first c0 fuel d with
  | zero =>
    obtain rfl : c0 = c := Fin.ext (by rw [h0, hc, Nat.add_zero])
    cases fuel with
    | zero => omega
    | succ fuel =>
      refine ⟨d.set c0.val (d[c0.val] + quanta c0 - size), by simp [arrive, hs, hfit], ?_, fun x _ ⟨j, hj, _⟩ => by omega,
        fun x hx _ => ?_⟩
      · rw [getElem_set_client, if_pos rfl]
      · rw [getElem_set_client, if_neg hx]
  | succ i ih =>
    cases fuel with
    | zero => omega
    | succ fuel =>
      have hca : c ≠ c0 := fun e => by rw [e] at hc; omega
      have hnext : (nextClient c0).val = (first + 1) % 14 := by simp only [nextClient, h0]; omega
      obtain ⟨v, hstep, hv⟩ : ∃ v, arrive sizes quanta (fuel + 1) c0 d
          = arrive sizes quanta fuel (nextClient c0) (d.set c0.val v)
          ∧ v = if sizes c0 = none then 0 else d[c0.val] + quanta c0 := by
        rw [arrive]
        cases hs0 : sizes c0 with
        | none => exact ⟨0, rfl, rfl⟩
        | some y =>
          have := hno 0 c0 y (by omega) (by rw [h0, Nat.add_zero]) hs0
          exact ⟨d[c0.val] + quanta c0, if_neg (by omega), rfl⟩
      obtain ⟨d', h1, h2⟩ := ih (c0 := nextClient c0) (first := first + 1) (fuel := fuel) (d := d.set c0.val v) (by omega)
        hnext (by rw [hc]; congr 1; omega) (by rw [getElem_set_client, if_neg hca]; exact hfit)
        (fun j x y hj hx hy => by
          have hne : x ≠ c0 := fun e => by rw [e, h0] at hx; omega
          rw [getElem_set_client, if_neg hne]
          exact hno (j + 1) x y (by omega) (by rw [hx]; congr 1; omega) hy)
        (by omega)
      exact ⟨d', hstep.trans h1, h2.cons hi h0 hc hv⟩

end

section
variable {s : State}

/-! ### The urgent stage -/

theorem lanesFrom_length (k : Lane) : (lanesFrom k).length = 12 := by simp [lanesFrom]

theorem lanesFrom_getElem (k : Lane) {i : Nat} (hi : i < (lanesFrom k).length) : ((lanesFrom k)[i]).val = (k.val + i) % 12 := by
  simp [lanesFrom]

theorem urgent_iff (k : Lane) (s : State) : urgent k s = true ↔ 3072 ≤ (s.lr k).staging.bytes.length := decide_eq_true_iff

/-- A lane that the urgent stage passes over. -/
theorem not_urgent_of {k : Lane} (h : (s.lr k).staging.bytes.length < 3072 ∨ eligible (laneClient k) s = none) :
    ¬ (urgent k s && (eligible (laneClient k) s).isSome) = true := by
  rw [Bool.and_eq_true, urgent_iff]
  rcases h with h | h
  · exact fun hc => absurd hc.1 (by omega)
  · simp [h]

theorem urgentChoice_eq_some {i : Nat} {k : Lane} {x : Txn} (hi : i < 12) (hk : k.val = (s.port.urgentPointer.val + i) % 12)
    (hu : 3072 ≤ (s.lr k).staging.bytes.length) (he : eligible (laneClient k) s = some x)
    (hno : ∀ (j : Nat) (y : Lane), j < i → y.val = (s.port.urgentPointer.val + j) % 12 →
      (s.lr y).staging.bytes.length < 3072 ∨ eligible (laneClient y) s = none) : urgentChoice s = some k := by
  have hlen := lanesFrom_length s.port.urgentPointer
  refine List.find?_eq_some_iff_getElem.mpr ⟨by simp [urgent_iff, hu, he], i, by omega, ?_, fun j hj => ?_⟩
  · exact Fin.ext ((lanesFrom_getElem _ (by omega)).trans hk.symm)
  · rw [Bool.not_eq_true', ← Bool.not_eq_true]
    exact not_urgent_of (hno j _ hj (lanesFrom_getElem _ (by omega)))

theorem urgentChoice_eq_none
    (h : ∀ k, (s.lr k).staging.bytes.length < 3072 ∨ eligible (laneClient k) s = none) : urgentChoice s = none :=
  List.find?_eq_none.mpr fun k _ => not_urgent_of (h k)

/-! ### The round-robin stage -/

theorem arbitrate_roundRobin (h : urgentChoice s = none) {c : Client} {d : Vector Nat 14}
    (hr : roundRobin (eligibleSize s) (fun c => quantumBytes c s) s.port.position s.port.deficits = some (c, d)) :
    arbitrate s = some (c, { s.port with deficits := d, position := some c }) := by
  simp [arbitrate, h, hr]

theorem eligibleSize_of {c : Client} {x : Txn} (h : eligible c s = some x) : eligibleSize s c = some x.size := by
  rw [eligibleSize, h]; rfl

theorem eligibleSize_none_iff {c : Client} : eligibleSize s c = none ↔ eligible c s = none := by simp [eligibleSize]

/-- A visit that is over, or none, is followed by a walk, from deficits in which a client visited with nothing eligible
has none. -/
theorem roundRobin_walks {first : Nat} (h0 : s.port.position = none → first = 0)
    (h1 : ∀ x, s.port.position = some x → first = x.val + 1)
    (hover : ∀ x y, s.port.position = some x → eligible x s = some y → s.port.deficits[x.val] < y.size) :
    ∃ (c0 : Client) (d : Vector Nat 14), c0.val = first % 14
      ∧ roundRobin (eligibleSize s) (fun c => quantumBytes c s) s.port.position s.port.deficits
        = arrive (eligibleSize s) (fun c => quantumBytes c s) arriveFuel c0 d
      ∧ ∀ x : Client, d[x.val] = if s.port.position = some x ∧ eligible x s = none then 0 else s.port.deficits[x.val] := by
  cases hp : s.port.position with
  | none => exact ⟨0, s.port.deficits, by rw [h0 hp]; rfl, rfl, fun x => by simp⟩
  | some a =>
    have ha : (nextClient a).val = first % 14 := by rw [h1 a hp]; rfl
    cases he : eligible a s with
    | none =>
      refine ⟨nextClient a, s.port.deficits.set a.val 0, ha, ?_, fun x => ?_⟩
      · simp only [roundRobin, eligibleSize_none_iff.mpr he]
      · rw [getElem_set_client]
        by_cases hx : x = a
        · subst hx; simp [he]
        · simp [hx, Ne.symm hx]
    | some y =>
      refine ⟨nextClient a, s.port.deficits, ha, ?_, fun x => ?_⟩
      · have := hover a y hp he
        simp only [roundRobin, eligibleSize_of he]
        exact if_neg (by omega)
      · by_cases hx : x = a
        · subst hx; simp [he]
        · simp [Ne.symm hx]

end

/-- Settles O28: the urgent stage finds its first lane in ring order, and the walk of the round-robin stage its first
client whose request fits. -/
theorem grantServesUrgentLanesThenRoundRobin : Obligations.GrantServesUrgentLanesThenRoundRobin := by
  unfold Obligations.GrantServesUrgentLanesThenRoundRobin
  intro s ha hi due
  have hx : exec .grant s = .next (grantOne s) := live_awake _ ha
  rw [hx]
  refine ⟨fun i k x hi12 hk hu he hno => ?_, fun hnone => ⟨fun c x hpos he hfit => ?_,
    fun first i c x h0 h1 hover hi14 hc he hfit hno => ?_⟩⟩
  · have harb : arbitrate s = some (laneClient k, { s.port with urgentPointer := nextLane k }) := by
      simp only [arbitrate, urgentChoice_eq_some hi12 hk hu he hno]
    refine ⟨_, congrArg _ (grantOne_arbitrated hi harb he), ?_⟩
    rw [issue_port]
    exact ⟨rfl, rfl⟩
  · have hrr : roundRobin (eligibleSize s) (fun c => quantumBytes c s) s.port.position s.port.deficits
        = some (c, s.port.deficits.set c.val (s.port.deficits[c.val] - x.size)) := by
      simp only [roundRobin, hpos, eligibleSize_of he]
      exact if_pos hfit
    refine ⟨_, congrArg _ (grantOne_arbitrated hi (arbitrate_roundRobin (urgentChoice_eq_none hnone) hrr) he), ?_⟩
    rw [issue_port, ← hpos]
    rfl
  · obtain ⟨c0, d, hc0, hrr, hd⟩ := roundRobin_walks h0 h1 hover
    have hsome : ∀ (a : Client) (y : Nat), eligibleSize s a = some y → ∃ z, eligible a s = some z ∧ z.size = y :=
      fun a y h => Option.map_eq_some_iff.mp h
    have hdc : ∀ (a : Client) (z : Txn), eligible a s = some z → d[a.val] = s.port.deficits[a.val] := fun a z h => by
      rw [hd, if_neg (by simp [h])]
    obtain ⟨d', hwalk, hw⟩ := arrive_walk (fuel := arriveFuel) (quanta := fun c => quantumBytes c s) hi14 hc0 hc
      (eligibleSize_of he) (by rw [hdc c x he]; exact hfit)
      (fun j a y hj hja hy => by
        obtain ⟨z, hz, rfl⟩ := hsome a y hy
        rw [hdc a z hz]
        exact hno j a z hj hja hz)
      (by simp only [arriveFuel]; omega)
    refine ⟨_, congrArg _ (grantOne_arbitrated hi (arbitrate_roundRobin (urgentChoice_eq_none hnone) (hrr.trans hwalk)) he), ?_⟩
    rw [issue_port]
    refine ⟨rfl, fun a => ⟨fun hac => ?_, fun hac hj => ?_, fun hac hj => ?_⟩⟩
    · subst hac
      exact hw.granted.trans (by rw [hdc a x he])
    · refine (hw.passed a hac hj).trans ?_
      simp only [eligibleSize_none_iff]
      split
      · rfl
      · next hne =>
        obtain ⟨z, hz⟩ := Option.ne_none_iff_exists'.mp hne
        rw [hdc a z hz]
    · exact (hw.others a hac hj).trans (hd a)

end Sys2Proof.Machine

/-! PROOFS. What the clients present, and what a grant leaves at the client whose request it issued (R58, R63, R109,
R120). -/

namespace Sys2Proof.Machine

section
variable {s : State} {k : Lane} {x : Txn}

/-! ### Requests -/

theorem request_lane (k : Lane) (s : State) : request (laneClient k) s = laneRequest k s := by
  have hk : (laneClient k).val < 12 := k.isLt
  rw [request, dif_pos hk]
  rfl

theorem request_reporter (s : State) : request reporterClient s = s.rw.queue.head? := rfl

theorem laneRequest_searching {f : FlightFrame} {slot read : Nat} {o : CurrentOrder} (hw : s.lw k = .searching f slot read false)
    (ho : s.order? f.stream = some o) : laneRequest k s = some (.slotRead k (o.slotAddress slot)) := by
  simp only [laneRequest, hw, ho, Option.map_some]

theorem laneRequest_placing {f : FlightFrame} {p : Placement} {o : CurrentOrder} (hw : s.lw k = .placing f p)
    (ho : s.order? f.stream = some o) : laneRequest k s
      = (dataWriteOf o.pageSize f p (s.lr k).staging.bytes).map fun w => .dataWrite k w.1 w.2 := by
  simp only [laneRequest, hw, ho]

/-- The longest data write that R63 allows now. -/
def longestWrite (size : Nat) (p : Placement) : Nat :=
  min 256 (min (4096 - (p.page + BitVec.ofNat 64 p.offset).toNat % 4096) (size - p.offset))

theorem dataWriteOf_eq (size : Nat) (f : FlightFrame) (p : Placement) (staged : List Byte) :
    dataWriteOf size f p staged = if longestWrite size p = 0 then none
      else if longestWrite size p ≤ staged.length then
        some (p.page + BitVec.ofNat 64 p.offset, staged.take (longestWrite size p))
      else if f.ended.isSome ∧ staged ≠ [] then some (p.page + BitVec.ofNat 64 p.offset, staged) else none := rfl

/-- A data write is formed at the write offset, of the next staged bytes, as many as R63 allows. -/
theorem dataWriteOf_some {size : Nat} {f : FlightFrame} {p : Placement} {staged : List Byte} {w : Addr × List Byte}
    (h : dataWriteOf size f p staged = some w) : w.1 = p.page + BitVec.ofNat 64 p.offset ∧ 0 < w.2.length
      ∧ w.2 = staged.take w.2.length
      ∧ (w.2.length = longestWrite size p ∨ (staged.length < longestWrite size p ∧ f.ended.isSome = true ∧ w.2 = staged)) := by
  rw [dataWriteOf_eq] at h
  split at h
  · simp at h
  · next h0 =>
    split at h
    · next hle =>
      obtain rfl := Option.some.inj h
      have hlen : (staged.take (longestWrite size p)).length = longestWrite size p := by
        rw [List.length_take]; omega
      exact ⟨rfl, by rw [hlen]; omega, by rw [hlen], .inl hlen⟩
    · next hlt =>
      split at h
      · next he =>
        obtain rfl := Option.some.inj h
        exact ⟨rfl, List.length_pos_iff.mpr he.2, List.take_length.symm, .inr ⟨by omega, he.1, rfl⟩⟩
      · simp at h

/-- What a Lane Writer presents comes of its search or of its placing. -/
theorem laneRequest_some (h : laneRequest k s = some x) :
    (∃ f slot read o, s.lw k = .searching f slot read false ∧ s.order? f.stream = some o
      ∧ x = .slotRead k (o.slotAddress slot))
    ∨ ∃ f p o w, s.lw k = .placing f p ∧ s.order? f.stream = some o
      ∧ dataWriteOf o.pageSize f p (s.lr k).staging.bytes = some w ∧ x = .dataWrite k w.1 w.2 := by
  unfold laneRequest at h
  split at h
  case h_1 f slot read hl =>
    obtain ⟨o, ho, rfl⟩ := Option.map_eq_some_iff.mp h
    exact .inl ⟨f, slot, read, o, hl, ho, rfl⟩
  case h_2 f p hl =>
    split at h
    · next o ho =>
      obtain ⟨w, hw, rfl⟩ := Option.map_eq_some_iff.mp h
      exact .inr ⟨f, p, o, w, hl, ho, hw, rfl⟩
    · simp at h
  all_goals simp at h

/-! ### Issue -/

theorem clientIssued_slotRead {f : FlightFrame} {slot read : Nat} {i : Bool} (a : Addr)
    (h : s.lw k = .searching f slot read i) : clientIssued (.slotRead k a) s = s.setLw k (.searching f slot read true) := by
  simp only [clientIssued, h]

/-- A writer that awaits a data write takes no frame-end decision. -/
theorem frameDecision_outstanding {f : FlightFrame} {p : Placement} (hw : s.lw k = .closing f p) (h : p.outstanding ≠ 0) :
    frameDecision k s = s := by
  simp only [frameDecision, hw]
  split
  · rw [if_neg h]
  all_goals rfl

/-- A data write's bytes leave staging, and the last of them closes the placing (R63, R109). -/
theorem clientIssued_dataWrite {f : FlightFrame} {p : Placement} {o : CurrentOrder} (a : Addr) (bytes : List Byte)
    (hw : s.lw k = .placing f p) (ho : s.order? f.stream = some o) :
    let left := (s.lr k).staging.take bytes.length
    let p' : Placement := { p with offset := p.offset + bytes.length, outstanding := p.outstanding + 1 }
    clientIssued (.dataWrite k a bytes) s = (s.setLr k { s.lr k with staging := left }).setLw k
      (if p'.offset = 256 * 2 ^ o.params.sizeCode ∨ (f.ended.isSome = true ∧ left.bytes = []) then .closing f p'
        else .placing f p') := by
  intro left p'
  have hx : clientIssued (.dataWrite k a bytes) s
      = advance k ((s.setLr k { s.lr k with staging := left }).setLw k (.placing f p')) := by
    simp only [clientIssued, hw]
    rfl
  have hstg : (((s.setLr k { s.lr k with staging := left }).setLw k (.placing f p')).lr k).staging = left := by
    rw [setLw_lr, lr_setLr]
  rw [hx, advance_placing (lw_setLw ..) (by exact ho), hstg, setLw_setLw]
  split
  · exact frameDecision_outstanding (lw_setLw ..) (Nat.succ_ne_zero _)
  · rfl

theorem take_bytes (g : Staging) (n : Nat) : (g.take n).bytes = g.bytes.drop n := by
  unfold Staging.take
  split
  · next h => rw [List.drop_eq_nil_of_le h]; rfl
  · rfl

theorem take_headLeft (g : Staging) (n : Nat) :
    (g.take n).headLeft = if (g.take n).bytes = [] then 0 else (g.headLeft + n) % 64 := by
  by_cases h : g.bytes.length ≤ n
  · have he : g.take n = Staging.empty := if_pos h
    rw [he]
    rfl
  · have hne : (g.take n).bytes ≠ [] := by
      rw [take_bytes, ne_eq, List.drop_eq_nil_iff]
      exact h
    rw [if_neg hne, Staging.take, if_neg h]
    rfl

/-- Where the issue point was free and is not now, a request that some client presented has been issued. -/
theorem issued_of_grantOne (hi : s.port.issuePoint = none) (h : (grantOne s).port.issuePoint = some x) :
    ∃ c p, request c s = some x ∧ p.table = s.port.table ∧ grantOne s = clientIssued x (s.placed p x) := by
  obtain hg | ⟨c, y, p, hy, hp, hg⟩ := grantOne_cases s
  · rw [hg, hi] at h
    cases h
  · have hyx : y = x := by
      rw [hg, issue_port] at h
      exact Option.some.inj h
    subst hyx
    exact ⟨c, p, (request_of_eligible hy).1, hp, hg.trans (issue_eq y p)⟩

/-- Only a Lane Writer presents a request of its lane. -/
theorem laneRequest_of_request (hr : ReporterLaw s) {c : Client} (h : request c s = some x) (hc : x.client = laneClient k) :
    laneRequest k s = some x := by
  obtain ⟨j, h⟩ | h | h := request_cases h
  · have hj : x.client = laneClient j := by
      obtain ⟨_, _, _, _, _, _, rfl⟩ | ⟨_, _, _, _, _, _, _, rfl⟩ := laneRequest_some h <;> rfl
    rw [← laneClient_injective (hj.symm.trans hc)]
    exact h
  · have hw : x.client = walkerClient := by
      obtain ⟨hk, _⟩ | ⟨hk, _⟩ := kind_of_walkerRequest h <;>
        cases x <;> simp [Txn.isHeaderRead, Txn.isJobRead] at hk <;> rfl
    have h' : 12 = k.val := congrArg (·.val) (hw.symm.trans hc)
    omega
  · exact absurd ((hr x (List.mem_of_mem_head? h)).symm.trans hc) (laneClient_ne_reporterClient k).symm

/-- Only the walker presents a request of its own. -/
theorem walkerRequest_of_request (hr : ReporterLaw s) {c : Client} (h : request c s = some x) (hc : x.client = walkerClient) :
    walkerRequest s = some x := by
  obtain ⟨j, h⟩ | h | h := request_cases h
  · have hj : x.client = laneClient j := by
      obtain ⟨_, _, _, _, _, _, rfl⟩ | ⟨_, _, _, _, _, _, _, rfl⟩ := laneRequest_some h <;> rfl
    have h' : j.val = 12 := congrArg (·.val) (hj.symm.trans hc)
    omega
  · exact h
  · exact absurd ((hr x (List.mem_of_mem_head? h)).symm.trans hc) walkerClient_ne_reporterClient.symm

end

/-- Settles O29: a request is presented by one client alone, and its issue changes that client. -/
theorem anIssuedRequestLeavesItsClient : Obligations.AnIssuedRequestLeavesItsClient := by
  unfold Obligations.AnIssuedRequestLeavesItsClient
  refine ⟨fun s => ⟨request_reporter s, fun k => ?_⟩, fun s u t ha hr hi hex hpt => ?_⟩
  · rw [request_lane]
    refine ⟨fun f slot read o hw ho => laneRequest_searching hw ho, fun f p o hw ho => ?_, fun h => ?_⟩
    · intro a staged most
      have hm : longestWrite o.pageSize p = most := rfl
      rw [laneRequest_placing hw ho, dataWriteOf_eq, hm]
      refine ⟨fun h0 hle => ?_, fun hlt he hne => ?_, fun h => ?_⟩
      · rw [if_neg (Nat.ne_of_gt h0), if_pos hle]; rfl
      · rw [if_neg (Nat.zero_lt_of_lt hlt).ne', if_neg (Nat.not_le.mpr hlt), if_pos ⟨he, hne⟩]; rfl
      · rcases h with h | ⟨hlt, h⟩
        · rw [if_pos h]; rfl
        · rw [if_neg (Nat.zero_lt_of_lt hlt).ne', if_neg (Nat.not_le.mpr hlt), if_neg (by
            rintro ⟨he, hne⟩
            rcases h with h | h
            · simp [h] at he
            · exact hne h)]
          rfl
    · rcases h with h | ⟨f, slot, read, h⟩ | ⟨f, p, h⟩ | ⟨f, p, stage, mb, h⟩ | ⟨d, h⟩ <;> simp only [laneRequest, h]
  · have hg : exec .grant s = .next (grantOne s) := live_awake _ ha
    obtain rfl := Host.Outcome.next.inj (hg.symm.trans hex)
    obtain ⟨c, p, hreq, hp, hu⟩ := issued_of_grantOne hi hpt
    rw [hu]
    refine ⟨fun k a ht => ?_, fun k a bytes ht => ?_, fun ht => ?_, fun a ht => ?_, fun hc => ?_⟩
    · subst ht
      obtain ⟨f, slot, read, o, hw, ho, hx⟩ | ⟨_, _, _, _, _, _, _, hx⟩ := laneRequest_some (laneRequest_of_request hr hreq rfl)
      · refine ⟨f, slot, read, o, hw, ho, (Txn.slotRead.inj hx).2, ?_⟩
        rw [clientIssued_slotRead (s := s.placed p _) _ hw]
        rfl
      · cases hx
    · subst ht
      obtain ⟨_, _, _, _, _, _, hx⟩ | ⟨f, q, o, w, hw, ho, hdw, hx⟩ := laneRequest_some (laneRequest_of_request hr hreq rfl)
      · cases hx
      · obtain ⟨_, rfl, rfl⟩ := Txn.dataWrite.inj hx
        obtain ⟨h1, h2, h3, h4⟩ := dataWriteOf_some hdw
        refine ⟨f, q, o, hw, ho, h1, h2, h3, ?_, take_bytes _ _, take_headLeft _ _, ?_⟩
        · rw [h1]; exact h4
        · rw [clientIssued_dataWrite (s := s.placed p _) w.1 w.2 hw ho]
          rfl
    · have hwr : walkerRequest s = some t := walkerRequest_of_request hr hreq (by
        obtain ⟨a, rfl | rfl | rfl⟩ := ht <;> rfl)
      obtain ⟨hk, _⟩ | ⟨_, _, j, hj, hi', _⟩ := kind_of_walkerRequest hwr
      · obtain ⟨a, rfl | rfl | rfl⟩ := ht <;> cases hk
      · refine ⟨j, hj, hi', ?_⟩
        have hj' : (s.placed p t).walker.inHand = some j := hj
        obtain ⟨a, rfl | rfl | rfl⟩ := ht <;> simp only [clientIssued, hj', Option.map_some] <;> rfl
    · subst ht
      obtain ⟨_, l, hd, hl⟩ | ⟨hk, _⟩ := kind_of_walkerRequest (walkerRequest_of_request hr hreq rfl)
      · refine ⟨l, hd, hl, ?_⟩
        have hd' : (s.placed p (.headerRead a)).dc.device = .loading l := hd
        simp only [clientIssued, hd']
        rfl
      · cases hk
    · refine ⟨(client_of_request hreq).resolve_right (not_not.mpr hc), ?_⟩
      obtain ⟨hn, _⟩ | ⟨_, h⟩ | ⟨hk, _⟩ := clientIssued_cases (s := s.placed p t) t
      · exact absurd hc hn
      · rw [h]; rfl
      · cases t with
        | headerRead a => exact absurd hc walkerClient_ne_reporterClient
        | _ => cases hk

end Sys2Proof.Machine

/-! PROOFS. Records on the bus (R26, R120 to R122, R185, 10.4 to 10.8): a record is a list of fields and gaps, laid one
after the other. -/

namespace Sys2Proof.Machine

/-! ### Records as fields and gaps -/

/-- A stretch of a record: a field of `n` bytes holding a value, or `n` bytes written 0. -/
inductive Stretch where
  | field (n v : Nat)
  | gap (n : Nat)

def Stretch.size : Stretch → Nat
  | .field n _ => n
  | .gap n => n

def Stretch.bytes : Stretch → List Byte
  | .field n v => leBytes n v
  | .gap n => zeros n

/-- The fields of a record, each with its offset, from an offset on. -/
def fieldsFrom (offset : Nat) : List Stretch → List (Nat × Nat × Nat)
  | [] => []
  | .field n v :: rest => (offset, n, v) :: fieldsFrom (offset + n) rest
  | .gap n :: rest => fieldsFrom (offset + n) rest

theorem stretch_length (x : Stretch) : x.bytes.length = x.size := by
  cases x <;> simp [Stretch.bytes, Stretch.size, leBytes, zeros]

theorem leBytes_getD {n v i : Nat} (h : i < n) : ((leBytes n v).getD i 0).toNat = v / 256 ^ i % 256 := by
  simp [leBytes, List.getD_eq_getElem?_getD, h]

theorem zeros_getD (n i : Nat) : (zeros n).getD i 0 = 0 := by
  simp [zeros, List.getD_eq_getElem?_getD, List.getElem?_replicate]
  split <;> rfl

theorem getD_append_left {a b : List Byte} {i : Nat} (h : i < a.length) : (a ++ b).getD i 0 = a.getD i 0 := by
  simp [List.getD_eq_getElem?_getD, List.getElem?_append_left h]

theorem getD_append_right {a b : List Byte} {i : Nat} (h : a.length ≤ i) : (a ++ b).getD i 0 = b.getD (i - a.length) 0 := by
  simp [List.getD_eq_getElem?_getD, List.getElem?_append_right h]

theorem fieldsFrom_ge {l : List Stretch} {offset : Nat} {f : Nat × Nat × Nat} (h : f ∈ fieldsFrom offset l) :
    offset ≤ f.1 := by
  induction l generalizing offset with
  | nil => cases h
  | cons x l ih =>
    cases x with
    | field n v =>
      rcases List.mem_cons.mp h with rfl | h
      · exact Nat.le_refl _
      · have := ih h; omega
    | gap n => have := ih (offset := offset + n) h; omega

/-- The fields from an offset on are those of a record that starts there. -/
structure LaidFrom (offset : Nat) (bytes : List Byte) (fields : List (Nat × Nat × Nat)) : Prop where
  values : ∀ f ∈ fields, ∀ i, i < f.2.1 → (bytes.getD (f.1 - offset + i) 0).toNat = f.2.2 / 256 ^ i % 256
  gaps : ∀ i, i < bytes.length → (∀ f ∈ fields, offset + i < f.1 ∨ f.1 + f.2.1 ≤ offset + i) → bytes.getD i 0 = 0

section
variable {offset n : Nat} {p rest : List Byte} {fields : List (Nat × Nat × Nat)} (hp : p.length = n)
  (h : LaidFrom (offset + n) rest fields)
include hp h

/-- The fields of a record's rest, seen from the start of the stretch before it. -/
theorem LaidFrom.values_append (hf : ∀ f ∈ fields, offset + n ≤ f.1) {f : Nat × Nat × Nat} (hm : f ∈ fields) {i : Nat}
    (hi : i < f.2.1) : ((p ++ rest).getD (f.1 - offset + i) 0).toNat = f.2.2 / 256 ^ i % 256 := by
  have := hf f hm
  rw [getD_append_right (by omega), hp, show f.1 - offset + i - n = f.1 - (offset + n) + i by omega]
  exact h.values f hm i hi

theorem LaidFrom.gaps_append {i : Nat} (hn : n ≤ i) (hi : i < (p ++ rest).length)
    (hg : ∀ f ∈ fields, offset + i < f.1 ∨ f.1 + f.2.1 ≤ offset + i) : (p ++ rest).getD i 0 = 0 := by
  rw [getD_append_right (by omega), hp]
  rw [List.length_append] at hi
  refine h.gaps _ (by omega) fun f hf => ?_
  have := hg f hf
  omega

end

theorem laidFrom_stretches (l : List Stretch) (offset : Nat) :
    LaidFrom offset (l.flatMap Stretch.bytes) (fieldsFrom offset l) := by
  induction l generalizing offset with
  | nil => exact ⟨(fun f hf => nomatch hf), fun i hi => absurd hi (Nat.not_lt_zero i)⟩
  | cons x l ih =>
    have hlen := stretch_length x
    have hge : ∀ f ∈ fieldsFrom (offset + x.size) l, offset + x.size ≤ f.1 := fun f => fieldsFrom_ge
    rw [List.flatMap_cons]
    cases x with
    | field n v =>
      refine ⟨fun f hf i hi => ?_, fun i hi hg => ?_⟩
      · rcases List.mem_cons.mp hf with rfl | hf
        · rw [getD_append_left (by rw [hlen]; simpa [Stretch.size] using hi), Nat.sub_self, Nat.zero_add]
          exact leBytes_getD hi
        · exact (ih _).values_append hlen hge hf hi
      · have h0 : offset + i < offset ∨ offset + n ≤ offset + i := hg _ List.mem_cons_self
        have hn : n ≤ i := by omega
        exact (ih _).gaps_append hlen hn hi fun f hf => hg f (List.mem_cons_of_mem _ hf)
    | gap n =>
      refine ⟨fun f hf i hi => (ih _).values_append hlen hge hf hi, fun i hi hg => ?_⟩
      by_cases hn : n ≤ i
      · exact (ih _).gaps_append hlen hn hi hg
      · rw [getD_append_left (by rw [hlen]; simpa [Stretch.size] using hn)]
        exact zeros_getD n i

theorem length_stretches (l : List Stretch) : (l.flatMap Stretch.bytes).length = (l.map Stretch.size).sum := by
  simp [List.length_flatMap, stretch_length]

/-- A record made of stretches is laid out by them. -/
theorem laidOut_of_stretches {bytes : List Byte} {size : Nat} {fields : List (Nat × Nat × Nat)} (l : List Stretch)
    (h : bytes = l.flatMap Stretch.bytes) (hs : (l.map Stretch.size).sum = size) (hf : fieldsFrom 0 l = fields) :
    LaidOut bytes size fields := by
  subst h hs hf
  obtain ⟨hv, hg⟩ := laidFrom_stretches l 0
  rw [← length_stretches]
  refine ⟨rfl, fun f hf i hi => hv f hf i hi, fun i hi h => hg i hi fun f hf => ?_⟩
  simpa using h f hf

theorem leBytes_one (b : Byte) : leBytes 1 b.toNat = [b] := by
  simp [leBytes]

/-! ### Each record -/

theorem deviceHalf_laidOut (h : DeviceHalf) : let c := h.counters
    LaidOut h.bytes 64 [(0, 1, h.outcome.code.toNat), (1, 1, h.reason.code.toNat),
      (2, 2, (c.first.getD 0).toNat), (4, 2, (c.last.getD 0).toNat), (8, 4, c.met.toNat),
      (12, 4, c.passedOver.toNat), (16, 4, c.thinned.toNat), (20, 4, c.gated.toNat),
      (24, 4, c.held.toNat), (28, 4, c.lost.toNat), (32, 4, c.committed.toNat),
      (36, 4, c.edgesIgnored.toNat), (40, 8, h.acceptTime.toNat), (48, 8, h.retireTime.toNat)] :=
  laidOut_of_stretches [.field 1 h.outcome.code.toNat, .field 1 h.reason.code.toNat,
    .field 2 (h.counters.first.getD 0).toNat, .field 2 (h.counters.last.getD 0).toNat, .gap 2,
    .field 4 h.counters.met.toNat, .field 4 h.counters.passedOver.toNat, .field 4 h.counters.thinned.toNat,
    .field 4 h.counters.gated.toNat, .field 4 h.counters.held.toNat, .field 4 h.counters.lost.toNat,
    .field 4 h.counters.committed.toNat, .field 4 h.counters.edgesIgnored.toNat, .field 8 h.acceptTime.toNat,
    .field 8 h.retireTime.toNat, .gap 8] (by
      simp only [DeviceHalf.bytes, List.flatMap_cons, List.flatMap_nil, Stretch.bytes, leBytes_one, le,
        List.append_assoc, List.append_nil, List.cons_append, List.nil_append]) (by simp [Stretch.size])
    (by simp [fieldsFrom])

theorem slotMeta_laidOut (m : SlotMeta) : LaidOut m.bytes 28 [(0, 2, m.flags.toNat), (2, 2, m.sourceNumber.toNat),
    (4, 4, m.length.toNat), (8, 4, m.gauge.toNat), (12, 4, m.commitIndex.toNat), (16, 8, m.commitTime.toNat)] :=
  laidOut_of_stretches [.field 2 m.flags.toNat, .field 2 m.sourceNumber.toNat, .field 4 m.length.toNat,
    .field 4 m.gauge.toNat, .field 4 m.commitIndex.toNat, .field 8 m.commitTime.toNat, .gap 4] (by
      simp only [SlotMeta.bytes, List.flatMap_cons, List.flatMap_nil, Stretch.bytes, le, List.append_assoc,
        List.append_nil]) (by simp [Stretch.size])
    (by simp [fieldsFrom])

theorem laneRecord_laidOut (r : LaneRecord) : let c := r.counters
    LaidOut r.bytes 32 [(0, 1, r.lock.code.toNat), (2, 2, c.unbound.toNat), (4, 2, c.checkFailures.toNat),
      (6, 2, c.lengthErrors.toNat), (8, 2, c.badHeaders.toNat), (10, 2, c.overflows.toNat),
      (12, 2, c.codeViolations.toNat), (14, 2, c.lockLosses.toNat), (16, 2, c.sourceAborts.toNat),
      (18, 2, c.refused.toNat), (20, 4, c.framesStarted.toNat), (24, 8, r.refreshTime.toNat)] :=
  laidOut_of_stretches [.field 1 r.lock.code.toNat, .gap 1, .field 2 r.counters.unbound.toNat,
    .field 2 r.counters.checkFailures.toNat, .field 2 r.counters.lengthErrors.toNat,
    .field 2 r.counters.badHeaders.toNat, .field 2 r.counters.overflows.toNat,
    .field 2 r.counters.codeViolations.toNat, .field 2 r.counters.lockLosses.toNat,
    .field 2 r.counters.sourceAborts.toNat, .field 2 r.counters.refused.toNat,
    .field 4 r.counters.framesStarted.toNat, .field 8 r.refreshTime.toNat] (by
      simp only [LaneRecord.bytes, List.flatMap_cons, List.flatMap_nil, Stretch.bytes, leBytes_one, le,
        List.append_assoc, List.append_nil, List.cons_append, List.nil_append]
      rfl) (by simp [Stretch.size])
    (by simp [fieldsFrom])

theorem summary_laidOut (r : Summary) : LaidOut r.bytes 32
    [(0, 4, r.reportNumber.toNat), (4, 1, r.device.code.toNat), (8, 8, r.time.toNat)] :=
  laidOut_of_stretches [.field 4 r.reportNumber.toNat, .field 1 r.device.code.toNat, .gap 3, .field 8 r.time.toNat,
    .gap 16] (by
      simp only [Summary.bytes, List.flatMap_cons, List.flatMap_nil, Stretch.bytes, leBytes_one, le,
        List.append_assoc, List.append_nil, List.cons_append, List.nil_append]) (by simp [Stretch.size])
    (by simp [fieldsFrom])

theorem fillWrite_laidOut (k : Lane) (a : Addr) (v : Half) : LaidOut (Txn.fillWrite k a v).bytes 2 [(0, 2, v.toNat)] :=
  laidOut_of_stretches [.field 2 v.toNat] (List.append_nil _).symm rfl rfl

/-- An optional byte, as a field that is 0 when there is none. -/
theorem leBytes_orZero {α : Type} (f : α → Byte) (g : α → Nat) (h : ∀ x, f x = BitVec.ofNat 8 (g x)) (o : Option α) :
    leBytes 1 ((o.map g).getD 0) = [orZero f o] := by
  cases o <;> simp [leBytes, orZero, h]

theorem streamRecord_laidOut (x : Standing) (acted : Byte) (result : RequestResult) (last : Option Half)
    (unclaimed missed publication : Word) :
    let b := x.binding?
    LaidOut (StreamRecord.bytes ⟨⟨x, acted, result, last, unclaimed, missed⟩, publication⟩) 64
      [(0, 1, x.code.toNat), (1, 1, acted.toNat), (2, 1, result.code.toNat),
        (3, 1, (b.map fun y => y.lane.val).getD 0), (4, 1, (b.map fun y => y.tag.val).getD 0),
        (5, 1, (b.map fun y => y.window.val).getD 0),
        (6, 1, (x.resume?.map fun y => y.code.toNat).getD 0),
        (7, 1, (x.fault?.map fun y => y.code.toNat).getD 0), (8, 8, x.orderAddress.toNat),
        (16, 4, unclaimed.toNat), (20, 4, missed.toNat), (24, 2, (last.getD 0).toNat),
        (26, 1, if last.isSome then 1 else 0), (28, 4, publication.toNat)] :=
  laidOut_of_stretches [.field 1 x.code.toNat, .field 1 acted.toNat, .field 1 result.code.toNat,
    .field 1 ((x.binding?.map fun y => y.lane.val).getD 0), .field 1 ((x.binding?.map fun y => y.tag.val).getD 0),
    .field 1 ((x.binding?.map fun y => y.window.val).getD 0),
    .field 1 ((x.resume?.map fun y => y.code.toNat).getD 0), .field 1 ((x.fault?.map fun y => y.code.toNat).getD 0),
    .field 8 x.orderAddress.toNat, .field 4 unclaimed.toNat, .field 4 missed.toNat, .field 2 (last.getD 0).toNat,
    .field 1 (if last.isSome then 1 else 0), .gap 1, .field 4 publication.toNat, .gap 32] (by
      have hlast : leBytes 1 (if last.isSome then 1 else 0) = [if last.isSome then 1 else 0] := by
        cases last <;> simp [leBytes]
      have hgap : zeros 1 = [0] := rfl
      simp only [StreamRecord.bytes, List.flatMap_cons, List.flatMap_nil, Stretch.bytes, leBytes_one, hlast, hgap, le,
        leBytes_orZero (fun b : Binding => BitVec.ofNat 8 b.lane.val) _ fun _ => rfl,
        leBytes_orZero (fun b : Binding => BitVec.ofNat 8 b.tag.val) _ fun _ => rfl,
        leBytes_orZero (fun b : Binding => BitVec.ofNat 8 b.window.val) _ fun _ => rfl,
        leBytes_orZero ResumePoint.code _ fun y => (BitVec.setWidth_eq y.code).symm.trans (BitVec.ofNat_toNat 8 y.code).symm,
        leBytes_orZero FaultCode.code _ fun y => (BitVec.setWidth_eq y.code).symm.trans (BitVec.ofNat_toNat 8 y.code).symm,
        List.append_assoc, List.append_nil, List.cons_append, List.nil_append]) (by simp [Stretch.size])
    (by simp [fieldsFrom])

/-! ### Transactions -/

/-- A write carries as many bytes as its size says. -/
theorem bytes_length_of_write {x : Txn} (h : x.direction = .write) : x.bytes.length = x.size := by
  cases x with
  | slotRead | anchorRead | orderRead | linkRead | headerRead => cases h
  | dataWrite k a b => rfl
  | metadataWrite k a m => exact (slotMeta_laidOut m).1
  | fillWrite k a v => exact (fillWrite_laidOut k a v).1
  | deviceHalfWrite st d a half =>
    obtain ⟨hlen, -, -⟩ := deviceHalf_laidOut half
    exact hlen
  | streamStatusWrite a r =>
    obtain ⟨⟨x, acted, result, last, unclaimed, missed⟩, publication⟩ := r
    obtain ⟨hlen, -, -⟩ := streamRecord_laidOut x acted result last unclaimed missed publication
    exact hlen
  | laneStatusWrite a r => exact (laneRecord_laidOut r).1
  | summaryWrite a r => exact (summary_laidOut r).1

/-- The beats of a transaction are the aligned sixteens its range touches (R122). -/
theorem mem_beats {x : Txn} {beat : Nat} : beat ∈ x.beats ↔
    ∃ i, i < (x.address.toNat % 16 + x.size + 15) / 16 ∧ 16 * (x.address.toNat / 16 + i) = beat := by
  simp [Txn.beats]

theorem mem_beats_of_range {x : Txn} {a : Nat} (h1 : x.address.toNat ≤ a) (h2 : a < x.address.toNat + x.size) :
    16 * (a / 16) ∈ x.beats :=
  mem_beats.mpr ⟨a / 16 - x.address.toNat / 16, by omega, by omega⟩

theorem byteEnables_getElem? (x : Txn) (beat : Nat) {i : Nat} (hi : i < 16) : (x.byteEnables beat)[i]? = some true
    ↔ x.address.toNat ≤ beat + i ∧ beat + i < x.address.toNat + x.size := by
  simp [Txn.byteEnables, hi]

/-- Settles O31: each record is fields and gaps laid one after the other, and a transaction's range lies in its beats. -/
theorem recordsOnTheBus : Obligations.RecordsOnTheBus := by
  unfold Obligations.RecordsOnTheBus
  refine ⟨fun a => ⟨fun k => ⟨⟨rfl, rfl, rfl, rfl, rfl⟩, fun _ => ⟨rfl, rfl, rfl, rfl, rfl⟩, fun _ => ⟨rfl, rfl, rfl, rfl, rfl⟩,
      fun _ => ⟨rfl, rfl, rfl, rfl, rfl⟩⟩, ⟨rfl, rfl, rfl, rfl, rfl⟩, ⟨rfl, rfl, rfl, rfl, rfl⟩, ⟨rfl, rfl, rfl, rfl, rfl⟩,
      ⟨rfl, rfl, rfl, rfl, rfl⟩, fun _ _ _ => ⟨rfl, rfl, rfl, rfl, rfl⟩, fun _ => ⟨rfl, rfl, rfl, rfl, rfl⟩,
      fun _ => ⟨rfl, rfl, rfl, rfl, rfl⟩, fun _ => ⟨rfl, rfl, rfl, rfl, rfl⟩⟩,
    rfl, rfl, rfl, rfl, rfl, rfl, fun _ _ => rfl, rfl, fun _ _ => ⟨rfl, rfl⟩,
    ⟨rfl, fun _ _ _ _ _ _ => ⟨rfl, rfl, rfl, rfl, rfl, rfl, rfl, rfl, rfl⟩⟩,
    deviceHalf_laidOut, slotMeta_laidOut, streamRecord_laidOut, laneRecord_laidOut, summary_laidOut, fillWrite_laidOut,
    fun x => ⟨bytes_length_of_write, fun _ => mem_beats_of_range, fun beat hb => ⟨?_, by simp [Txn.byteEnables],
      fun i => byteEnables_getElem? x beat⟩⟩⟩
  obtain ⟨i, _, rfl⟩ := mem_beats.mp hb
  omega

end Sys2Proof.Machine

/-! PROOFS. The Chain Walker's jobs (R31, R36, R37). -/

namespace Sys2Proof.Machine

/-- R37: both ends of the range lie in the window. -/
theorem insideWindow_iff (w : Window) (a : Addr) (n : Nat) : insideWindow w a n = true ↔ w.granules.toNat ≠ 0
    ∧ w.base.toNat ≤ a.toNat ∧ a.toNat + n ≤ w.base.toNat + 4096 * w.granules.toNat := by
  have hz : w.granules = 0 ↔ w.granules.toNat = 0 := by rw [← BitVec.toNat_inj]; rfl
  rw [Nat.mul_comm, ← Window.bytes]
  simp only [insideWindow, Bool.and_eq_true, bne_iff_ne, ne_eq, hz, and_assoc]
  exact and_congr_right fun _ => and_congr decide_eq_true_iff decide_eq_true_iff

section
variable {s : State}

/-- The writes a fetch step waits for are the device halves under way (R36). -/
theorem halvesOpen_eq (s : State) : halvesOpen s = s.unended Txn.isDeviceHalf := by
  have h : ∀ t : Txn, t.deviceHalfStream?.isSome = t.isDeviceHalf := fun t => by cases t <;> rfl
  simp only [halvesOpen, State.unended, h]

theorem beginFetch_inside {st : StreamId} {b : Binding} {a : Addr} (h : insideWindow (s.window b.window) a 128 = true) :
    beginFetch st b a s = setStage (.awaitWrites a (halvesOpen s)) s := if_pos h

theorem beginFetch_outside {st : StreamId} {b : Binding} {a : Addr} (h : insideWindow (s.window b.window) a 128 = false) :
    beginFetch st b a s = endJob (streamFault st .orderOutside s) := if_neg (by simp [h])

theorem workFetch_fetch {st : StreamId} {kind : JobKind} {b : Binding} {a : Addr}
    (h : s.standing st = .bound b (.fetching (.fetch a))) : workFetch ⟨st, kind⟩ s = beginFetch st b a s := by
  simp only [workFetch, h]

theorem workLink_ready {st : StreamId} {kind : JobKind} {b : Binding} {a : Addr}
    (h : s.standing st = .bound b (.fetching (.link a true))) : workLink ⟨st, kind⟩ s = beginLink a s := by
  simp only [workLink, h]

/-- A FETCH job ends at once where the stream holds no fetch step. -/
theorem workFetch_idle {j : Job} (h : ∀ b a, s.standing j.stream ≠ .bound b (.fetching (.fetch a))) :
    workFetch j s = endJob s := by
  unfold workFetch
  split
  · next b a hs => exact absurd hs (h b a)
  all_goals rfl

/-- A LINK job ends at once where the stream holds no ready link step. -/
theorem workLink_idle {j : Job} (h : ∀ b a, s.standing j.stream ≠ .bound b (.fetching (.link a true))) :
    workLink j s = endJob s := by
  unfold workLink
  split
  · next b a hs => exact absurd hs (h b a)
  all_goals rfl

/-- The state with the job at the queue's head taken in hand, and the rest queued. -/
def State.took (s : State) (j : Job) (rest : List Job) : State :=
  { s with walker := { s.walker with queue := rest, inHand := some ⟨j, .anchorRead false⟩ } }

theorem takeJob_head {kind : JobKind} {work : Job → State → State} {st : StreamId} {rest : List Job}
    (hd : s.dc.device = .running) (hi : s.walker.inHand = none) (hq : s.walker.queue = ⟨st, kind⟩ :: rest) :
    takeJob kind work s = work ⟨st, kind⟩ (s.took ⟨st, kind⟩ rest) := by
  simp only [takeJob, hq, hd, hi, and_self, if_true, State.took]

theorem holdsFetch_of_fetch {st : StreamId} {b : Binding} {a : Addr} (h : s.standing st = .bound b (.fetching (.fetch a))) :
    holdsFetch st a s = some b := by simp [holdsFetch, h]

end

/-- Settles O32: the order read waits for the device halves, and each kind of job takes the step of its kind. -/
theorem walkerTakesItsJobs : Obligations.WalkerTakesItsJobs := by
  unfold Obligations.WalkerTakesItsJobs
  refine ⟨insideWindow_iff, fun s n i h => by simp [State.window, h], halvesOpen_eq, fun s job a n ha hw hj => ?_,
    fun s st kind rest ha hd hi hq => ?_⟩
  · have hx : exec .orderReadIssue s = .next (issueOrderRead s) := live_awake _ ha
    rw [hx]
    refine ⟨fun hn => ?_, ?_⟩
    · obtain ⟨m, rfl⟩ := Nat.exists_eq_succ_of_ne_zero hn
      simp only [issueOrderRead, hj]
    · rintro rfl b hb
      have hf := holdsFetch_of_fetch hb
      refine ⟨?_, ?_⟩
      · simp only [issueOrderRead, hj, hw, hf, Option.isSome_some, if_true, setStage, State.setInHand, Option.map_some]
      · rcases hw with hd | hd <;> simp [request, walkerRequest, walkerClient, hd]
  · refine ⟨?_, ?_, ?_⟩
    · rintro rfl
      have hx : exec .anchorJob s = .next (takeJob .anchor (fun _ s => s) s) := live_awake _ ha
      rw [hx, takeJob_head hd hi hq]
      exact ⟨rfl, by simp [request, walkerRequest, walkerClient, hd, anchorAddress]; rfl⟩
    · rintro rfl
      have hx : exec .fetchJob s = .next (takeJob .fetch workFetch s) := live_awake _ ha
      rw [hx, takeJob_head hd hi hq]
      refine ⟨fun b a hb => ?_, fun hn => congrArg _ (workFetch_idle hn)⟩
      refine ⟨fun hin => congrArg _ ((workFetch_fetch (s := s.took _ _) hb).trans
        (beginFetch_inside (s := s.took _ _) hin)), fun hout => congrArg _ ?_⟩
      refine (workFetch_fetch (s := s.took _ _) hb).trans ((beginFetch_outside (s := s.took _ _) hout).trans ?_)
      rw [streamFault_eq_movedTo (s := s.took _ _) (.inl hd) hb (fun _ => nofun)]
      rfl
    · rintro rfl
      have hx : exec .linkJob s = .next (takeJob .link workLink s) := live_awake _ ha
      rw [hx, takeJob_head hd hi hq]
      exact ⟨fun b a hb => congrArg _ (workLink_ready hb), fun hn => congrArg _ (workLink_idle hn)⟩

end Sys2Proof.Machine

/-! PROOFS. The requests (R3, R12 to R23, R31, R152, R159): START, HALT, RESUME and FORGET. -/

namespace Sys2Proof.Machine

/-! ### When a request is taken, and its answer -/

/-- The state once the request `number` has put a stream in the standing `x` and been answered `r` (R13). -/
def State.answered (s : State) (st : StreamId) (x : Standing) (number : Byte) (r : RequestResult) : State :=
  { s.setCtx st { s.ctx st with standing := x, acted := number, result := r } with
    rw := { s.rw with pendingSet := s.rw.pendingSet.set st.val true } }

section
variable {s : State} {st : StreamId} {number : Byte}

theorem anchorInHand_iff : anchorInHand st s = true ↔
    ∃ job issued, s.walker.inHand = some ⟨job, .anchorRead issued⟩ ∧ job.stream = st := by
  unfold anchorInHand
  split
  · next job issued h => simp [h]
  all_goals next h => simp [h]

theorem jobInHandOf_eq_false_iff : jobInHandOf st s = false ↔ ∀ j, s.walker.inHand = some j → j.job.stream ≠ st := by
  unfold jobInHandOf
  split
  · next j h => simp [h]
  · next h => simp [h]

theorem requestOpen_iff : requestOpen st s = true ↔
    (∃ job issued, s.walker.inHand = some ⟨job, .anchorRead issued⟩ ∧ job.stream = st)
    ∨ (s.dc.device = .running ∧ ∀ j, s.walker.inHand = some j → j.job.stream ≠ st) := by
  rw [requestOpen, Bool.or_eq_true, Bool.and_eq_true, anchorInHand_iff, decide_eq_true_eq, Bool.not_eq_true',
    jobInHandOf_eq_false_iff]

theorem holdsPair_iff (lane : Lane) (tag : Tag) : holdsPair lane tag s st = true ↔
    ∃ b p, s.standing st = .bound b p ∧ b.lane = lane ∧ b.tag = tag := by
  cases hs : s.standing st with
  | idle => simp [holdsPair, hs, Standing.binding?]
  | bound b p => simp [holdsPair, hs, Standing.binding?, Binding.isPair]

theorem laneEnabled_of_snapshot {n : Snapshot} (h : s.dc.snapshot = some n) (k : Lane) :
    s.laneEnabled k = n.lanes[k.val].enabled := by
  simp [State.laneEnabled, State.laneConfig?, h]

/-- An open request with a new number is acted on. -/
theorem live_takeRequest (ha : s.awake) (hw : s.working) (ho : requestOpen st s = true) (hn : number ≠ (s.ctx st).acted)
    (act : State → State) : live (takeRequest st number act) s = .next (act s) :=
  (live_awake _ ha).trans (congrArg _ (if_pos ⟨hw, ho, hn⟩))

theorem answer_eq (hw : s.working) (r : RequestResult) :
    answer st number r s = s.answered st (s.standing st) number r := by
  rw [answer, pend_of_working st (s := s.setCtx st _) hw]
  rfl

theorem answer_movedTo (hw : s.working) (b : Binding) (p : Phase) (r : RequestResult) :
    answer st number r (s.movedTo st b p) = s.answered st (.bound b p) number r := by
  rw [answer, pend_of_working st (s := (s.movedTo st b p).setCtx st _) hw]
  simp [State.movedTo, State.answered, State.setStanding, State.setCtx, State.ctx]

theorem answer_enter (hw : s.working) {b : Binding} {p : Phase} (hs : s.standing st = .bound b p) (q : Phase)
    (r : RequestResult) : answer st number r (enter st q s) = s.answered st (.bound b q) number r := by
  rw [enter_eq_movedTo hw hs, answer_movedTo hw]

end

/-! ### START -/

section
variable {s : State} {st : StreamId}

/-- The fields of a START anchor name a binding when they are in range. -/
theorem binding?_eq_none {a : Anchor} (h : ¬ (a.reserved = 0 ∧ a.lane.toNat < 12 ∧ a.tag.toNat < 4 ∧ a.window.toNat < 8)) :
    a.binding? = none := by
  unfold Anchor.binding?
  split
  · rfl
  · next hr => exact dif_neg fun hlt => h ⟨not_not.mp hr, hlt⟩

theorem binding?_eq_some {a : Anchor} {b : Binding} (hr : a.reserved = 0) (hl : b.lane.val = a.lane.toNat)
    (ht : b.tag.val = a.tag.toNat) (hw : b.window.val = a.window.toNat) : a.binding? = some b := by
  have hlt : a.lane.toNat < 12 ∧ a.tag.toNat < 4 ∧ a.window.toNat < 8 := by omega
  rw [Anchor.binding?, if_neg (not_not.mpr hr), dif_pos hlt]
  obtain ⟨bl, bt, bw⟩ := b
  simp only [Option.some.injEq, Binding.mk.injEq]
  exact ⟨Fin.ext hl.symm, Fin.ext ht.symm, Fin.ext hw.symm⟩

theorem taken_iff {b : Binding} : (allStreams.any fun other => other != st && holdsPair b.lane b.tag s other) = true ↔
    ∃ x, x ≠ st ∧ holdsPair b.lane b.tag s x = true := by
  simp [allStreams]

theorem badHead_iff {head : Addr} : (head = 0 ∨ aligned128 head = false) ↔ (head = 0 ∨ head.toNat % 128 ≠ 0) := by
  rw [← Bool.not_eq_true, aligned128_iff]

theorem actStart_bound (h : s.standing st ≠ .idle) (a : Anchor) : actStart st a s = answer st a.number .wrongState s := by
  unfold actStart
  split
  · rfl
  · next hi => exact absurd hi h

theorem actStart_badField (h : s.standing st = .idle) {a : Anchor} (ha : a.binding? = none) :
    actStart st a s = answer st a.number .badField s := by
  simp only [actStart, h, ha]

theorem actStart_refused (h : s.standing st = .idle) {a : Anchor} {b : Binding} (ha : a.binding? = some b)
    {r : RequestResult} (hr : startResult st b a.head s = r) (hd : r ≠ .done) :
    actStart st a s = answer st a.number r s := by
  simp only [actStart, h, ha, hr]

theorem actStart_done (h : s.standing st = .idle) {a : Anchor} {b : Binding} (ha : a.binding? = some b)
    (hr : startResult st b a.head s = .done) : actStart st a s = pend st (s.setCtx st
      ⟨.bound b (.fetching (.fetch a.head)), a.number, .done, none, 0, 0⟩) := by
  simp only [actStart, h, ha, hr]

end

/-- Settles O34: the checks of R14 in their order, the first that fails answering. -/
theorem startBindsTheStream : Obligations.StartBindsTheStream := by
  unfold Obligations.StartBindsTheStream
  refine ⟨fun s st => requestOpen_iff, fun s st lane tag => holdsPair_iff lane tag, fun s n k h => laneEnabled_of_snapshot h k,
    fun s st number lane tag window reserved head ha hw ho hn => ?_⟩
  intro inRange run pended answered
  have hx : run = .next (actStart st ⟨number, 1, lane, tag, window, reserved, head⟩ s) :=
    live_takeRequest ha hw ho hn _
  have hans : ∀ r, answer st number r s = answered r := fun r => answer_eq hw r
  rw [hx]
  refine ⟨fun hb => ?_, fun hi hr => ?_, fun b hi hr hl ht hwin => ?_⟩
  · rw [actStart_bound hb, hans]
  · rw [actStart_badField hi (binding?_eq_none hr), hans]
  · intro taken badHead
    have hb : Anchor.binding? ⟨number, 1, lane, tag, window, reserved, head⟩ = some b := binding?_eq_some hr hl ht hwin
    have refused : ∀ {r}, startResult st b head s = r → r ≠ .done →
        (Host.Outcome.next (actStart st ⟨number, 1, lane, tag, window, reserved, head⟩ s) : Host.Outcome State Fault Refusal)
          = .next (answered r) :=
      fun hr hd => congrArg _ ((actStart_refused hi hb hr hd).trans (hans _))
    have hfree : ¬ taken → startResult st b head s = if !s.laneEnabled b.lane then .laneDisabled
        else if head = 0 ∨ aligned128 head = false then .badHead
        else if (s.window b.window).granules = 0 then .badWindow else .done := fun h => if_neg (taken_iff.not.mpr h)
    refine ⟨fun h => refused (if_pos (taken_iff.mpr h)) nofun, fun h he => refused ?_ nofun,
      fun h he hh => refused ?_ nofun, fun h he hh hg => refused ?_ nofun, fun h he hh hg => congrArg _ ?_⟩
    · rw [hfree h, if_pos (by rw [he]; rfl)]
    · rw [hfree h, if_neg (by rw [he]; decide), if_pos (badHead_iff.mpr hh)]
    · rw [hfree h, if_neg (by rw [he]; decide), if_neg (badHead_iff.not.mpr hh), if_pos hg]
    · rw [actStart_done hi hb (by
        show startResult st b head s = .done
        rw [hfree h, if_neg (by rw [he]; decide), if_neg (badHead_iff.not.mpr hh), if_neg hg])]
      exact pend_of_working st (s := s.setCtx st _) hw

end Sys2Proof.Machine

/-! PROOFS. HALT, RESUME and FORGET (R15 to R22, R31, R152, R159). -/

namespace Sys2Proof.Machine

section
variable {s : State} {st : StreamId} {number : Byte}

theorem answer_enqueue (hw : s.working) (t : Txn) (r : RequestResult) :
    answer st number r (enqueue t s) = enqueue t (answer st number r s) := by
  rw [answer_eq hw, answer_eq (s := enqueue t s) hw]
  rfl

/-- A request that retires the stream's order is answered with the retirement write queued. -/
theorem answer_retire (hw : s.working) {b : Binding} {p : Phase} (hs : s.standing st = .bound b p) {o : CurrentOrder}
    (ho : s.order? st = some o) (outcome : OrderOutcome) (reason : Reason) (next : CurrentOrder → Phase)
    (r : RequestResult) : answer st number r (retire st outcome reason next s)
      = enqueue (.deviceHalfWrite st false o.address (o.half outcome reason s.now))
          (s.answered st (.bound b (next o)) number r) := by
  have hr : retire st outcome reason next s
      = enqueue (.deviceHalfWrite st false o.address (o.half outcome reason s.now)) (enter st (next o) s) := by
    simp only [retire, ho]
    rfl
  have hwe : (enter st (next o) s).working := by rw [enter_eq_movedTo hw hs]; exact hw
  rw [hr, answer_enqueue hwe, answer_enter hw hs]

theorem frameInFlight_iff {b : Binding} {p : Phase} (hs : s.standing st = .bound b p) :
    frameInFlight st s = true ↔ (s.lw b.lane).stream? = some st := by
  simp [frameInFlight, hs, Standing.binding?]

/-! ### HALT -/

theorem actHalt_armed {b : Binding} {o : CurrentOrder} {d : Option Time} (hs : s.standing st = .bound b (.armed o d)) :
    actHalt st number s = answer st number .done (retire st .cut .halted (fun o => .halted (linkOf o)) s) := by
  simp only [actHalt, hs]

theorem actHalt_capturing {b : Binding} {o : CurrentOrder} (hs : s.standing st = .bound b (.capturing o)) :
    actHalt st number s = if frameInFlight st s then answer st number .done (enter st (.halting o) s)
      else answer st number .done (retire st .cut .halted (fun o => .halted (linkOf o)) s) := by
  simp only [actHalt, hs]

end

/-- Settles O35: HALT by the stream's state. -/
theorem haltStopsTheStream : Obligations.HaltStopsTheStream := by
  unfold Obligations.HaltStopsTheStream
  intro s st number ha hw ho hn pended answered cut
  have hx : exec (.halt st number) s = .next (actHalt st number s) := live_takeRequest ha hw ho hn _
  have refused : actHalt st number s = answer st number .wrongState s →
      (Host.Outcome.next (actHalt st number s) : Host.Outcome State Fault Refusal)
        = .next (answered (s.standing st) .wrongState) := fun h => congrArg _ (h.trans (answer_eq hw _))
  rw [hx]
  refine ⟨fun b r hs => congrArg _ ?_, fun b a hs => congrArg _ ?_, fun b o d hs => congrArg _ ?_,
    fun b o hs => ⟨fun hf => congrArg _ ?_, fun hf => congrArg _ ?_⟩, fun h => refused ?_⟩
  · simp only [actHalt, hs]
    exact answer_enter hw hs _ _
  · simp only [actHalt, hs]
    exact answer_enter hw hs _ _
  · rw [actHalt_armed hs, answer_retire hw hs (o := o) (by simp [State.order?, hs, Standing.order?])]
    rfl
  · rw [actHalt_capturing hs, if_neg ((frameInFlight_iff hs).not.mpr hf),
      answer_retire hw hs (o := o) (by simp [State.order?, hs, Standing.order?])]
    rfl
  · rw [actHalt_capturing hs, if_pos ((frameInFlight_iff hs).mpr hf)]
    exact answer_enter hw hs _ _
  · rcases h with hi | ⟨b, ⟨o, hs⟩ | ⟨r, hs⟩ | ⟨c, hs⟩⟩
    · simp only [actHalt, hi]
    all_goals simp only [actHalt, hs]

/-! ### RESUME and FORGET -/

section
variable {s : State} {st : StreamId} {number : Byte}

theorem actResume_halted {b : Binding} {r : ResumePoint} (hs : s.standing st = .bound b (.halted r)) :
    actResume st number s = answer st number .done (enter st (.fetching r.atResume) s) := by
  simp only [actResume, hs]

theorem actResume_other (h : ∀ b r, s.standing st ≠ .bound b (.halted r)) :
    actResume st number s = answer st number .wrongState s := by
  unfold actResume
  split
  · next b r hs => exact absurd hs (h b r)
  all_goals rfl

theorem actForget_taken {b : Binding} (h : (∃ r, s.standing st = .bound b (.halted r))
    ∨ (∃ a, s.standing st = .bound b (.parked a)) ∨ ∃ c, s.standing st = .bound b (.faulted c)) :
    actForget st number s = answer st number .done (disown st (s.setCtx st (s.ctx st).forgotten)) := by
  rcases h with ⟨r, hs⟩ | ⟨a, hs⟩ | ⟨c, hs⟩ <;> simp only [actForget, hs]

theorem ctx_answered (x : Standing) (r : RequestResult) :
    (s.answered st x number r).ctx st = { s.ctx st with standing := x, acted := number, result := r } := ctx_setCtx ..

/-- What the Memory Port shows of a transaction does not tell whose it is. -/
theorem disownedBy_onBus (t : Txn) : (t.disownedBy st).client = t.client ∧ (t.disownedBy st).direction = t.direction
    ∧ (t.disownedBy st).address = t.address ∧ (t.disownedBy st).bytes = t.bytes := by
  cases t <;> exact ⟨rfl, rfl, rfl, rfl⟩

end

/-- Settles O36: RESUME and FORGET by the stream's state; what FORGET marks is marked on each transaction and writer. -/
theorem resumeAndForget : Obligations.ResumeAndForget := by
  unfold Obligations.ResumeAndForget
  intro s st number ha hw ho hn pended answered seenOnBus mark
  have hx : exec (.resume st number) s = .next (actResume st number s) := live_takeRequest ha hw ho hn _
  have hy : exec (.forget st number) s = .next (actForget st number s) := live_takeRequest ha hw ho hn _
  rw [hx, hy]
  refine ⟨fun b a hs => congrArg _ ?_, fun b a ready hs => congrArg _ ?_, fun h => congrArg _ ?_,
    fun h => ?_, fun h => congrArg _ ?_⟩
  · rw [actResume_halted hs]
    exact answer_enter hw hs _ _
  · rw [actResume_halted hs]
    exact answer_enter hw hs _ _
  · rw [actResume_other h]
    exact answer_eq hw _
  · obtain ⟨b, h⟩ := h
    have hmark : ∀ t : Txn, t.disownedBy st = mark t := fun t => by
      cases t with
      | deviceHalfWrite x own a y =>
        show Txn.deviceHalfWrite x (own || x == st) a y = Txn.deviceHalfWrite x (if x = st then true else own) a y
        by_cases hx : x = st <;> simp [hx]
      | _ => rfl
    have hseen : ∀ t : Txn, seenOnBus (t.disownedBy st) = seenOnBus t := fun t => by
      obtain ⟨h1, h2, h3, h4⟩ := disownedBy_onBus (st := st) t
      show (_, _, _, _) = _
      rw [h1, h2, h3, h4]
    have hd : (disown st (s.setCtx st (s.ctx st).forgotten)).working := hw
    refine ⟨_, rfl, ?_⟩
    rw [actForget_taken h, answer_eq hd]
    refine ⟨?_, fun x hne => ?_, rfl, rfl, rfl, rfl, rfl, ?_, ?_, ?_, ?_, fun k => ⟨fun d hk => ?_, fun hk => ?_⟩⟩
    · have hc : (disown st (s.setCtx st (s.ctx st).forgotten)).ctx st = (s.ctx st).forgotten := ctx_setCtx ..
      rw [ctx_answered, State.standing, hc]
      rfl
    · exact (ctx_setCtx_ne _ hne _).trans (ctx_setCtx_ne _ hne _)
    · show (s.rw.queue.map (Txn.disownedBy st)).map seenOnBus = _
      rw [List.map_map]
      exact List.map_congr_left fun t _ => hseen t
    · show (s.port.table.map fun e => { e with txn := e.txn.disownedBy st }).map _ = _
      rw [List.map_map]
      exact List.map_congr_left fun e _ => congrArg (·, e.timeout) (hseen e.txn)
    · exact List.map_congr_left fun t _ => hmark t
    · exact List.map_congr_left fun e _ => congrArg (fun t => ({ e with txn := t } : Entry)) (hmark e.txn)
    · show (disown st s).lw k = _
      rw [lw_disown, hk]
      by_cases hx : d.frame.stream = st <;> simp [Writer.disownedBy, DroppedFrame.stream, hx]
    · show (disown st s).lw k = _
      rw [lw_disown]
      cases hl : s.lw k with
      | dropping d => exact absurd hl (hk d)
      | _ => rfl
  · rcases h with hi | ⟨b, ⟨r, hs⟩ | ⟨o, d, hs⟩ | ⟨o, hs⟩ | ⟨o, hs⟩⟩
    · simp only [actForget, hi]
      exact hi ▸ answer_eq hw _
    all_goals
      simp only [actForget, hs]
      exact hs ▸ answer_eq hw _

end Sys2Proof.Machine

/-! PROOFS. The anchor read (10.3, R12, R13, R23, R31, R185). -/

namespace Sys2Proof.Machine

/-! ### The fields of a record -/

theorem field_toNat {m : Nat} (data : BitVec m) (i n : Nat) :
    (field data i n).toNat = data.toNat / 256 ^ i % 256 ^ n := by
  have hp : ∀ j, 2 ^ (8 * j) = 256 ^ j := fun j => Nat.pow_mul 2 8 j
  rw [field, BitVec.extractLsb'_toNat, Nat.shiftRight_eq_div_pow, hp, hp]

theorem byteAt_toNat {m : Nat} (data : BitVec m) (i : Nat) : (byteAt data i).toNat = data.toNat / 256 ^ i % 256 :=
  (field_toNat data i 1).trans (by rw [Nat.pow_one])

/-! ### What a request leaves unchanged -/

section
variable {s : State} {st : StreamId}

@[simp] theorem answer_walker (number : Byte) (r : RequestResult) : (answer st number r s).walker = s.walker := by
  simp [answer]

@[simp] theorem enter_walker (p : Phase) : (enter st p s).walker = s.walker := by
  unfold enter
  split <;> simp

@[simp] theorem retire_walker (outcome : OrderOutcome) (reason : Reason) (next : CurrentOrder → Phase) :
    (retire st outcome reason next s).walker = s.walker := by
  unfold retire
  split <;> simp

theorem actStart_frame (a : Anchor) : (actStart st a s).dc = s.dc ∧ (actStart st a s).walker = s.walker := by
  unfold actStart
  split
  · simp
  · split
    · simp
    · split <;> simp

theorem actHalt_frame (number : Byte) : (actHalt st number s).dc = s.dc ∧ (actHalt st number s).walker = s.walker := by
  unfold actHalt
  split
  case h_3 => split <;> simp
  all_goals simp

theorem actResume_frame (number : Byte) : (actResume st number s).dc = s.dc ∧ (actResume st number s).walker = s.walker := by
  unfold actResume
  split <;> simp

theorem actForget_frame (number : Byte) : (actForget st number s).dc = s.dc ∧ (actForget st number s).walker = s.walker := by
  unfold actForget
  split <;> simp [disown]

/-- A request is the Stream Context Table's own: the device and the walker's job stay. -/
theorem actRequest_frame (a : Anchor) : (actRequest st a s).dc = s.dc ∧ (actRequest st a s).walker = s.walker := by
  unfold actRequest
  split
  · exact actStart_frame a
  split
  · exact actHalt_frame a.number
  split
  · exact actResume_frame a.number
  split
  · exact actForget_frame a.number
  · simp

end

/-! ### What the job goes on to -/

section
variable {w : State} {st : StreamId} {b : Binding} {x : Addr}

theorem setStage_inHand {job : Job} {stage : JobStage} (hj : w.walker.inHand = some ⟨job, stage⟩) (next : JobStage) :
    setStage next w = w.setInHand (some ⟨job, next⟩) := by
  simp only [setStage, hj, Option.map_some]

theorem goOn_fetch (hs : w.standing st = .bound b (.fetching (.fetch x))) : goOn st w = beginFetch st b x w := by
  simp only [goOn, hs]

theorem goOn_link (hs : w.standing st = .bound b (.parked x) ∨ w.standing st = .bound b (.fetching (.link x true))) :
    goOn st w = beginLink x w := by
  rcases hs with hs | hs <;> simp only [goOn, hs]

theorem goOn_nothing (hp : ∀ b x, w.standing st ≠ .bound b (.parked x))
    (hl : ∀ b x, w.standing st ≠ .bound b (.fetching (.link x true)))
    (hf : ∀ b x, w.standing st ≠ .bound b (.fetching (.fetch x))) : goOn st w = endJob w := by
  unfold goOn
  split
  · next b x hs => exact absurd hs (hf b x)
  · next b x hs => exact absurd hs (hl b x)
  · next b x hs => exact absurd hs (hp b x)
  all_goals rfl

end

theorem anchorReadOk_eq {s : State} {job : Job} (hw : s.working) (hj : s.walker.inHand = some ⟨job, .anchorRead true⟩)
    (data : Read16) : anchorReadOk data s = goOn job.stream
      (if (parseAnchor data).number ≠ (s.ctx job.stream).acted then actRequest job.stream (parseAnchor data) s else s) := by
  have hr : anchorReader s = some job.stream := by simp only [anchorReader, hj]
  simp only [anchorReadOk, hr, hw, if_true]

/-- Settles O33: the anchor's fields, the request its row acts on, and what the job goes on to. -/
theorem anchorReadActsAndGoesOn : Obligations.AnchorReadActsAndGoesOn := by
  unfold Obligations.AnchorReadActsAndGoesOn
  refine ⟨fun m i n data => ⟨field_toNat data i n, byteAt_toNat data i⟩,
    fun data => ⟨?_, ?_, ?_, ?_, ?_, field_toNat data 5 3, field_toNat data 8 8⟩, ?_⟩
  case refine_6 =>
    intro s t address job data ht hans hw hj st u a goesOnFrom
    subst ht
    have huw : u.working := hw
    have huj : u.walker.inHand = some ⟨job, .anchorRead true⟩ := hj
    have hx : exec (.anchorReadDone data) s = .next (anchorReadOk data u) := live_answers hans rfl
    have hread : anchorReadOk data u = goOn st (if a.number ≠ (s.ctx st).acted then actRequest st a u else u) :=
      anchorReadOk_eq huw huj data
    have goes : ∀ w : State, w.dc = u.dc → w.walker = u.walker → anchorReadOk data u = goOn st w → goesOnFrom w := by
      intro w hdc hwk hgo
      have hwj : w.walker.inHand = some ⟨job, .anchorRead true⟩ := by rw [hwk]; exact huj
      have hww : w.working := by unfold State.working; rw [hdc]; exact huw
      have hwin : ∀ i, w.window i = s.window i := fun i => by
        have hsn : w.dc.snapshot = s.dc.snapshot := congrArg Control.snapshot hdc
        simp only [State.window, hsn]
      simp only [goesOnFrom, hx, hgo]
      refine ⟨fun b x hs => congrArg _ ?_, fun b x hs => congrArg _ ?_, fun b x hs hin => congrArg _ ?_,
        fun b x hs hout => congrArg _ ?_, fun hp hl hf => congrArg _ (goOn_nothing hp hl hf)⟩
      · exact (goOn_link (.inl hs)).trans (setStage_inHand hwj _)
      · exact (goOn_link (.inr hs)).trans (setStage_inHand hwj _)
      · exact (goOn_fetch hs).trans ((beginFetch_inside (by rw [hwin]; exact hin)).trans (setStage_inHand hwj _))
      · rw [goOn_fetch hs, beginFetch_outside (by rw [hwin]; exact hout), streamFault_eq_movedTo hww hs fun _ => nofun]
        rfl
    have hopen : requestOpen st u = true := requestOpen_iff.mpr (.inl ⟨job, true, huj, rfl⟩)
    refine ⟨fun hold => goes u rfl rfl ?_, fun hnew => ?_⟩
    · rw [hread, if_neg (not_not.mpr hold)]
    have taken : ∀ act : State → State, live (takeRequest st a.number act) u = .next (act u) :=
      fun act => live_takeRequest (s := u) hans.awake huw hopen hnew act
    refine ⟨actRequest st a u, goes _ ?_ ?_ ?_, fun h => ?_, fun h => ?_,
      fun h => ?_, fun h => ?_, fun h => ?_⟩
    · exact (actRequest_frame a).1
    · exact (actRequest_frame a).2
    · rw [hread, if_pos hnew]
    · exact (taken _).trans (congrArg _ (by rw [actRequest, if_pos h, ← h]))
    · exact (taken _).trans (congrArg _ (by simp [actRequest, h]))
    · exact (taken _).trans (congrArg _ (by simp [actRequest, h]))
    · exact (taken _).trans (congrArg _ (by simp [actRequest, h]))
    · have hk : ∀ v : Byte, a.kind = v → a.kind.toNat = v.toNat := fun v h => congrArg BitVec.toNat h
      rw [actRequest, if_neg fun e => ?_, if_neg fun e => ?_, if_neg fun e => ?_, if_neg fun e => ?_, answer_eq huw]
      · rfl
      all_goals
        have := hk _ e
        simp at this
        omega
  all_goals exact byteAt_toNat data _

end Sys2Proof.Machine

/-! PROOFS. Records: a field is its bytes (10.1, R185), and the tests of a record are made in order (R40, R175). -/

namespace Sys2Proof.Machine

/-! ### Fields as bytes -/

section
variable {w : Nat} (d : BitVec w)

theorem field_append (i m n : Nat) :
    (field d i (m + n)).toNat = (field d i m).toNat + 256 ^ m * (field d (i + m) n).toNat := by
  simp only [field_toNat]
  rw [Nat.pow_add, Nat.mod_mul, Nat.div_div_eq_div_mul, ← Nat.pow_add]

theorem field_one (i : Nat) : (field d i 1).toNat = (byteAt d i).toNat := rfl

theorem field_half (i : Nat) : (field d i 2).toNat = (byteAt d i).toNat + 256 * (byteAt d (i + 1)).toNat :=
  field_append d i 1 1

theorem field_word (i : Nat) : (field d i 4).toNat = ((byteAt d i).toNat + 256 * (byteAt d (i + 1)).toNat)
    + 65536 * ((byteAt d (i + 2)).toNat + 256 * (byteAt d (i + 2 + 1)).toNat) := by
  rw [← field_half, ← field_half]
  exact field_append d i 2 2

theorem field_long (i : Nat) : (field d i 8).toNat = (field d i 4).toNat + 4294967296 * (field d (i + 4) 4).toNat :=
  field_append d i 4 4

theorem zeroBytes_iff (i n : Nat) : zeroBytes d i n = true ↔ (field d i n).toNat = 0 := by
  rw [zeroBytes, beq_iff_eq, ← BitVec.toNat_inj]
  rfl

/-- A stretch of a record is zero when each of its bytes is. -/
theorem zeroBytes_iff_forall (i n : Nat) : zeroBytes d i n = true ↔ ∀ j, i ≤ j → j < i + n → (byteAt d j).toNat = 0 := by
  induction n with
  | zero =>
    rw [zeroBytes_iff, field_toNat, Nat.pow_zero, Nat.mod_one]
    exact ⟨fun _ j h h' => absurd h' (by omega), fun _ => rfl⟩
  | succ n ih =>
    rw [zeroBytes_iff] at ih ⊢
    rw [field_append d i n 1, field_one, Nat.add_eq_zero_iff, ih, Nat.mul_eq_zero]
    have hp : 256 ^ n ≠ 0 := by positivity
    refine ⟨fun ⟨hlow, hlast⟩ j h h' => ?_, fun h => ⟨fun j hj hj' => h j hj (by omega), .inr (h _ (by omega) (by omega))⟩⟩
    rcases Nat.lt_or_ge j (i + n) with hj | hj
    · exact hlow j h hj
    · obtain rfl : j = i + n := by omega
      exact hlast.resolve_left hp

end

/-! ### Tests in order -/

/-- What tests made in order leave of a result: the first that fails answers. -/
def judged {ε α : Type} (tests : List (Bool × ε)) (result : Except ε α) : Except ε α :=
  match tests with
  | [] => result
  | x :: rest => if x.1 then judged rest result else .error x.2

section
variable {ε α : Type}

theorem require_bind (e : ε) (t : Bool) (f : Unit → Except ε α) :
    (require e t >>= f) = if t then f () else .error e := by
  cases t <;> rfl

theorem judged_ok {tests : List (Bool × ε)} (h : ∀ x ∈ tests, x.1 = true) (result : Except ε α) :
    judged tests result = result := by
  induction tests with
  | nil => rfl
  | cons x rest ih =>
    rw [judged, if_pos (h x List.mem_cons_self)]
    exact ih fun y hy => h y (List.mem_cons_of_mem _ hy)

/-- The test that answers is the first that fails. -/
theorem judged_eq_error_iff (tests : List (Bool × ε)) (a : α) (e : ε) : judged tests (.ok a) = .error e ↔
    ∃ before after, tests = before ++ (false, e) :: after ∧ ∀ x ∈ before, x.1 = true := by
  induction tests with
  | nil => simp [judged]
  | cons x rest ih =>
    obtain ⟨t, e'⟩ := x
    cases t with
    | false =>
      simp only [judged, Bool.false_eq_true, if_false, Except.error.injEq]
      refine ⟨fun h => ⟨[], rest, by rw [h]; rfl, fun _ h => nomatch h⟩, fun ⟨before, after, heq, hb⟩ => ?_⟩
      cases before with
      | nil => simpa using congrArg (fun l => (l.head?.map Prod.snd)) heq
      | cons y ys =>
        obtain ⟨rfl, -⟩ := List.cons.inj heq
        exact nomatch hb _ List.mem_cons_self
    | true =>
      simp only [judged, if_true, ih]
      refine ⟨fun ⟨before, after, heq, hb⟩ => ⟨(true, e') :: before, after, by rw [heq]; rfl, fun y hy => ?_⟩,
        fun ⟨before, after, heq, hb⟩ => ?_⟩
      · rcases List.mem_cons.mp hy with rfl | hy
        · rfl
        · exact hb y hy
      · cases before with
        | nil => exact absurd (congrArg (fun l => (l.head?.map Prod.fst)) heq) (by simp)
        | cons y ys => exact ⟨ys, after, (List.cons.inj heq).2, fun z hz => hb z (List.mem_cons_of_mem _ hz)⟩

end

end Sys2Proof.Machine

/-! PROOFS. The order record (10.7, R40): its gate test. -/

namespace Sys2Proof.Machine

/-- An order record whose gate byte is 3, which encodes no gate, and whose every other field is good: kind SINGLE (byte
8), start IMMEDIATE (byte 9), thin 1 (byte 13), one page (byte 16). -/
def badGateOrder : Read128 := 1#1024 <<< 64 ||| 1#1024 <<< 72 ||| 3#1024 <<< 88 ||| 1#1024 <<< 104 ||| 1#1024 <<< 128

theorem badGateOrder_bytes : (byteAt badGateOrder 8).toNat = 1 ∧ (byteAt badGateOrder 9).toNat = 1
    ∧ (byteAt badGateOrder 11).toNat = 3 := by decide +kernel

/-- In `Gate.ofByte` the last `none` is the encoding `Gate.none`, not the absent one: byte 3 reads as NONE. -/
theorem parseOrder_badGateOrder : (parseOrder badGateOrder).toOption.map OrderParams.gate = some .none := by
  decide +kernel

/-- Refutes O37: the record `badGateOrder` fails R40's gate test and no test before it, and check 4 passes it as an order
without a gate. -/
theorem not_orderChecksInOrder : ¬ Obligations.OrderChecksInOrder := by
  unfold Obligations.OrderChecksInOrder
  obtain ⟨d, ⟨hkind, hstart, hgate⟩, hok⟩ : ∃ d, ((byteAt d 8).toNat = 1 ∧ (byteAt d 9).toNat = 1
      ∧ (byteAt d 11).toNat = 3) ∧ (parseOrder d).toOption.map OrderParams.gate = some .none :=
    ⟨badGateOrder, badGateOrder_bytes, parseOrder_badGateOrder⟩
  intro h
  have hbad : parseOrder d = .error .badGate := by simpa [hkind, hstart, hgate] using h d
  rw [hbad] at hok
  exact nomatch hok

end Sys2Proof.Machine

/-! PROOFS. The order read (R7, R39 to R43, R77, R83). -/

namespace Sys2Proof.Machine

section
variable {s : State} {st : StreamId} {b : Binding} {a : Addr} {data : Read128}

/-- The order read of a working part judges the record of the step its stream still holds. -/
theorem orderReadOk_of_issued {job : Job} (hw : s.working) (hj : s.walker.inHand = some ⟨job, .orderRead a true⟩)
    (hs : s.standing job.stream = .bound b (.fetching (.fetch a))) :
    orderReadOk data s = endJob (judgeOrder job.stream b a data s) := by
  have hr : orderReader s = some (job.stream, a) := by simp only [orderReader, hj]
  simp only [orderReadOk, hr, hw, if_true, holdsFetch_of_fetch hs]

theorem judgeOrder_stale (h : byteAt data 64 ≠ 0) : judgeOrder st b a data s = streamFault st .staleOrder s := if_pos h

theorem judgeOrder_refused (h : byteAt data 64 = 0) {r : Reason} (hp : parseOrder data = .error r) :
    judgeOrder st b a data s = refuseOrder st a .refused r s := by
  rw [judgeOrder, if_neg (show ¬ outcomeByte data ≠ 0 from not_not.mpr h), hp]

theorem judgeOrder_outside (h : byteAt data 64 = 0) {p : OrderParams} (hp : parseOrder data = .ok p) {r : Reason}
    (ho : p.outside (s.window b.window) = some r) : judgeOrder st b a data s = refuseOrder st a .window r s := by
  simp only [judgeOrder, if_neg (show ¬ outcomeByte data ≠ 0 from not_not.mpr h), hp, ho]

theorem judgeOrder_accepted (h : byteAt data 64 = 0) {p : OrderParams} (hp : parseOrder data = .ok p)
    (ho : p.outside (s.window b.window) = none) : judgeOrder st b a data s = acceptOrder st a p s := by
  simp only [judgeOrder, if_neg (show ¬ outcomeByte data ≠ 0 from not_not.mpr h), hp, ho]

/-- Check 5: the page set first, then the slot table (R41). -/
theorem outside_pages {p : OrderParams} {w : Window}
    (h : insideWindow w p.pageBase (p.pageCount * (256 * 2 ^ p.sizeCode)) = false) : p.outside w = some .pagesOutside :=
  if_pos (by rw [Bool.not_eq_true']; exact h)

theorem outside_slots {p : OrderParams} {w : Window}
    (h : insideWindow w p.pageBase (p.pageCount * (256 * 2 ^ p.sizeCode)) = true)
    (h' : insideWindow w p.slotTable (32 * p.pageCount) = false) : p.outside w = some .slotsOutside :=
  (if_neg (by rw [Bool.not_eq_true', Bool.not_eq_false]; exact h)).trans (if_pos (by rw [Bool.not_eq_true']; exact h'))

theorem outside_none {p : OrderParams} {w : Window}
    (h : insideWindow w p.pageBase (p.pageCount * (256 * 2 ^ p.sizeCode)) = true)
    (h' : insideWindow w p.slotTable (32 * p.pageCount) = true) : p.outside w = none :=
  (if_neg (by rw [Bool.not_eq_true', Bool.not_eq_false]; exact h)).trans
    (if_neg (by rw [Bool.not_eq_true', Bool.not_eq_false]; exact h'))

/-- A device half handed over with the stream's move. -/
theorem handHalf_enter (hw : s.working) {p : Phase} (hs : s.standing st = .bound b p) (h : DeviceHalf) (q : Phase) :
    handHalf st a h (enter st q s) = { s.setStanding st (.bound b q) with
      rw := { s.rw with pendingSet := s.rw.pendingSet.set st.val true
                        queue := s.rw.queue ++ [.deviceHalfWrite st false a h] } } := by
  rw [enter_eq_movedTo hw hs]
  rfl

theorem acceptedPhase_eq (o : CurrentOrder) : acceptedPhase o = if o.params.start = .immediate then .capturing o
    else .armed o (if o.params.armLimit = 0 then none
      else some (o.acceptTime + BitVec.ofNat 64 (1000 * o.params.armLimit.toNat))) := by
  rw [acceptedPhase, Nat.mul_comm 1000]
  cases o.params.start <;> rfl

end

/-- Settles O38: checks 3 to 5 in order, and the order's first phase. -/
theorem orderReadJudgesTheOrder : Obligations.OrderReadJudgesTheOrder := by
  unfold Obligations.OrderReadJudgesTheOrder
  intro s t address a job b data ht hans hw hj hs st u pended wrote refusedAtFetch
  subst ht
  have hwu : (s.ended (.orderRead address)).working := hw
  have hsu : (s.ended (.orderRead address)).standing st = .bound b (.fetching (.fetch a)) := hs
  have hx : exec (.orderReadDone data) s = .next (endJob (judgeOrder st b a data (s.ended (.orderRead address)))) :=
    (live_answers hans rfl).trans (congrArg _ (orderReadOk_of_issued hwu hj hsu))
  have refused : ∀ outcome r, endJob (refuseOrder st a outcome r (s.ended (.orderRead address)))
      = refusedAtFetch outcome r := fun outcome r =>
    congrArg endJob (handHalf_enter hwu hsu _ (.fetching (.link a false)))
  rw [hx]
  refine ⟨fun h => congrArg _ ?_, fun h => ⟨fun r hp => congrArg _ ?_, fun p hp => ?_⟩⟩
  · rw [judgeOrder_stale h, streamFault_eq_movedTo hwu hsu fun _ => nofun]
    rfl
  · rw [judgeOrder_refused h hp, refused]
  · intro pages slots
    refine ⟨fun hpg => congrArg _ ?_, fun hpg hsl => congrArg _ ?_, fun hpg hsl => ?_⟩
    · rw [judgeOrder_outside (s := s.ended (.orderRead address)) h hp (outside_pages hpg), refused]
    · rw [judgeOrder_outside (s := s.ended (.orderRead address)) h hp (outside_slots hpg hsl), refused]
    · intro o
      rw [judgeOrder_accepted (s := s.ended (.orderRead address)) h hp (outside_none hpg hsl)]
      refine congrArg _ ?_
      have hph : acceptedPhase o = _ := acceptedPhase_eq o
      rw [← hph]
      exact congrArg endJob (handHalf_enter hwu hsu _ (acceptedPhase o))

end Sys2Proof.Machine

/-! PROOFS. The Board header (10.2, R175): its tests in order and the snapshot it gives. -/

namespace Sys2Proof.Machine

/-- The tests in their order as statements, each with its number; the first that fails gives its number. -/
theorem judged_eq_error_iff_prop {tests : List (Bool × Nat)} {spec : List (Nat × Prop)} {α : Type}
    (h : spec = tests.map fun x => (x.2, x.1 = true)) (a : α) (n : Nat) : judged tests (.ok a) = .error n ↔
      ∃ before test after, spec = before ++ (n, test) :: after ∧ ¬ test ∧ ∀ x ∈ before, x.2 := by
  subst h
  rw [judged_eq_error_iff]
  constructor
  · rintro ⟨before, after, rfl, hb⟩
    refine ⟨_, (false = true), _, by rw [List.map_append, List.map_cons], Bool.false_ne_true, fun x hx => ?_⟩
    obtain ⟨y, hy, rfl⟩ := List.mem_map.mp hx
    exact hb y hy
  · rintro ⟨before, test, after, heq, ht, hb⟩
    obtain ⟨l, m, rfl, rfl, hm⟩ := List.map_eq_append_iff.mp heq
    obtain ⟨⟨t, e⟩, m', rfl, he, rfl⟩ := List.map_eq_cons_iff.mp hm
    obtain ⟨rfl, rfl⟩ := Prod.mk.inj he
    obtain rfl : t = false := by simpa using ht
    exact ⟨l, m', rfl, fun x hx => hb _ (List.mem_map_of_mem hx)⟩

/-! ### The header's tests -/

section
variable (h : BitVec 4096)

/-- The tests of R175, each with its number. -/
def headerTests : List (Bool × Nat) := [
  (field h 0 4 == 1, 1),
  (allLanes.all fun k => (byteAt h (laneConfigAt k)).toNat ≤ 1, 2),
  (allLanes.all fun k => (byteAt h (laneConfigAt k + 1)).toNat ≤ 2, 3),
  (allLanes.all fun k => (byteAt h (laneConfigAt k + 4)).toNat ≤ 1, 5),
  (allLanes.all fun k => quantumValid (byteAt h (laneConfigAt k + 5)), 6),
  (allWindows.all fun w => (windowOf h w).granules == 0 || (windowOf h w).base.toNat % 4096 == 0, 8),
  (allWindows.all fun w =>
    (windowOf h w).granules == 0 || (windowOf h w).base.toNat + (windowOf h w).bytes ≤ 2 ^ 64, 9),
  (quantumValid (byteAt h 8) && quantumValid (byteAt h 9), 10),
  (byteAt h 5 != 0, 12),
  (16 ≤ (field h 6 2).toNat, 13),
  (zeroBytes h 0x00A 54 && (allLanes.all fun k => zeroBytes h (laneConfigAt k + 6) 10)
    && (allWindows.all fun w => zeroBytes h (windowAt w + 12) 4) && zeroBytes h 0x180 128, 14)]

/-- The snapshot a header encodes. -/
def snapshotOf : Snapshot :=
  { lanes := Vector.ofFn (laneConfigOf h), windows := Vector.ofFn (windowOf h)
    walkerQuantum := (byteAt h 8).toNat, reporterQuantum := (byteAt h 9).toNat
    sweepInterval := byteAt h 4, refreshInterval := byteAt h 5, responseTimeout := field h 6 2 }

theorem parseHeader_eq : parseHeader h = judged (headerTests h) (.ok (snapshotOf h)) := by
  unfold parseHeader
  simp only [require_bind]
  rfl

theorem quantumValid_iff (b : Byte) : quantumValid b = true ↔ 1 ≤ b.toNat ∧ b.toNat ≤ 64 := by
  simp [quantumValid]

/-- A test of every lane's configuration, by its offset. -/
theorem allLanes_iff {q : Lane → Bool} {p : Nat → Prop} (hq : ∀ k, q k = true ↔ p (laneConfigAt k)) :
    allLanes.all q = true ↔ ∀ k, k < 12 → p (0x40 + 16 * k) := by
  simp only [allLanes, List.all_eq_true, List.mem_finRange, true_imp_iff, hq]
  exact ⟨fun h k hk => h ⟨k, hk⟩, fun h k => h k.val k.isLt⟩

/-- A test of every window entry, by its offset. -/
theorem allWindows_iff {q : WindowIndex → Bool} {p : Nat → Prop} (hq : ∀ w, q w = true ↔ p (windowAt w)) :
    allWindows.all q = true ↔ ∀ w, w < 8 → p (0x100 + 16 * w) := by
  simp only [allWindows, List.all_eq_true, List.mem_finRange, true_imp_iff, hq]
  exact ⟨fun h k hk => h ⟨k, hk⟩, fun h k => h k.val k.isLt⟩

/-- A test of a window entry that a closed window passes. -/
theorem closed_or_iff {v : Word} {test : Bool} {p : Prop} (ht : test = true ↔ p) :
    (v == 0 || test) = true ↔ (v.toNat ≠ 0 → p) := by
  rw [Bool.or_eq_true, beq_iff_eq, ht, ← BitVec.toNat_inj]
  change v.toNat = 0 ∨ p ↔ _
  tauto

/-- The gauge kinds by their byte. -/
theorem gaugeOf_iff (b : Byte) :
    ((if b = 0 then GaugeKind.sum else if b = 1 then .peak else .over) = .sum ↔ b.toNat = 0)
    ∧ ((if b = 0 then GaugeKind.sum else if b = 1 then .peak else .over) = .peak ↔ b.toNat = 1) := by
  simp only [← BitVec.toNat_inj]
  change ((if b.toNat = 0 then GaugeKind.sum else if b.toNat = 1 then .peak else .over) = .sum ↔ _)
    ∧ ((if b.toNat = 0 then GaugeKind.sum else if b.toNat = 1 then .peak else .over) = .peak ↔ _)
  split
  · simp [*]
  · split <;> simp [*]

/-- The lane policies by their byte. -/
theorem framePolicyOf_iff (b : Byte) : (if b = 0 then CheckPolicy.dropBad else .keepBad) = .dropBad ↔ b.toNat = 0 := by
  have hz : b = 0 ↔ b.toNat = 0 := BitVec.toNat_inj.symm
  rw [← hz]
  split <;> simp_all

theorem windowAt_granules (w : Nat) : 0x100 + 16 * w + 8 = 0x108 + 16 * w := by omega

theorem zeroBytes_range (first n : Nat) {last : Nat} (hl : last + 1 = first + n) : zeroBytes h first n = true ↔
    ∀ i, first ≤ i → i ≤ last → (byteAt h i).toNat = 0 := by
  rw [zeroBytes_iff_forall]
  exact ⟨fun hz i h1 h2 => hz i h1 (by omega), fun hz i h1 h2 => hz i h1 (by omega)⟩

end

/-- Settles O40: each test is the model's, and the snapshot's fields are the header's bytes. -/
theorem headerTestsInOrder : Obligations.HeaderTestsInOrder := by
  unfold Obligations.HeaderTestsInOrder
  intro h byte half word long lanes opened zero tests
  have hhalf : ∀ i, (field h i 2).toNat = half i := field_half h
  have hword : ∀ i, (field h i 4).toNat = word i := field_word h
  have hlong : ∀ i, (field h i 8).toNat = long i := fun i => by
    rw [field_long, hword, hword]
  have hbase : ∀ w, (windowOf h w).base.toNat = long (windowAt w) := fun w => hlong _
  have hgran : ∀ w, (windowOf h w).granules.toNat = word (windowAt w + 8) := fun w => hword _
  have hopened : ∀ test, opened test ↔ ∀ w, w < 8 → (word (0x100 + 16 * w + 8) ≠ 0 → test (0x100 + 16 * w)) :=
    fun test => by simp only [windowAt_granules]; exact Iff.rfl
  have htests : tests = (headerTests h).map fun x => (x.2, x.1 = true) := by
    simp only [tests, headerTests, List.map_cons, List.map_nil, List.cons.injEq, Prod.mk.injEq, true_and, and_true,
      eq_iff_iff]
    refine ⟨?_, ?_, ?_, ?_, ?_, ?_, ?_, ?_, ?_, ?_, ?_⟩
    · rw [beq_iff_eq, ← BitVec.toNat_inj, hword]
      rfl
    · exact (allLanes_iff (p := fun i => byte i ≤ 1) fun _ => decide_eq_true_iff).symm
    · exact (allLanes_iff (p := fun i => byte (i + 1) ≤ 2) fun _ => decide_eq_true_iff).symm
    · exact (allLanes_iff (p := fun i => byte (i + 4) ≤ 1) fun _ => decide_eq_true_iff).symm
    · exact (allLanes_iff (p := fun i => 1 ≤ byte (i + 5) ∧ byte (i + 5) ≤ 64) fun _ => quantumValid_iff _).symm
    · refine (hopened fun i => long i % 4096 = 0).trans
        (allWindows_iff (p := fun i => word (i + 8) ≠ 0 → long i % 4096 = 0) fun w => ?_).symm
      rw [closed_or_iff beq_iff_eq, hgran, hbase]
    · refine (hopened fun i => long i + word (i + 8) * 4096 ≤ 18446744073709551616).trans (allWindows_iff
        (p := fun i => word (i + 8) ≠ 0 → long i + word (i + 8) * 4096 ≤ 18446744073709551616) fun w => ?_).symm
      rw [closed_or_iff decide_eq_true_iff, Window.bytes, hgran, hbase]
      rfl
    · rw [Bool.and_eq_true, quantumValid_iff, quantumValid_iff]
    · rw [bne_iff_ne, ne_eq, ← BitVec.toNat_inj]
      exact Nat.one_le_iff_ne_zero
    · rw [decide_eq_true_iff, hhalf]
    · simp only [Bool.and_eq_true, and_assoc]
      refine and_congr (zeroBytes_range h 0x0A 54 rfl).symm (and_congr ?_ (and_congr ?_
        (zeroBytes_range h 0x180 128 rfl).symm))
      · rw [allLanes_iff (p := fun i => zero (i + 6) (i + 15)) fun k => zeroBytes_range h _ 10 (by omega)]
        exact forall₂_congr fun k _ => by rw [show 0x46 + 16 * k = 0x40 + 16 * k + 6 by omega, show 0x4F + 16 * k
          = 0x40 + 16 * k + 15 by omega]
      · rw [allWindows_iff (p := fun i => zero (i + 12) (i + 15)) fun w => zeroBytes_range h _ 4 (by omega)]
        exact forall₂_congr fun k _ => by rw [show 0x10C + 16 * k = 0x100 + 16 * k + 12 by omega, show 0x10F + 16 * k
          = 0x100 + 16 * k + 15 by omega]
  rw [parseHeader_eq]
  refine ⟨judged_eq_error_iff_prop htests _, fun hall => ⟨snapshotOf h, judged_ok (fun x hx => ?_) _, rfl, rfl, hhalf 6,
    rfl, rfl, fun k => ?_, fun w => ?_⟩⟩
  · exact hall (x.2, x.1 = true) (by rw [htests]; exact List.mem_map_of_mem hx)
  · have hk : (snapshotOf h).lanes[k.val] = laneConfigOf h k := by simp [snapshotOf]
    intro c i
    have hc : c = laneConfigOf h k := hk
    rw [hc]
    refine ⟨?_, ?_, ?_, hhalf _, ?_, rfl⟩
    · exact (beq_iff_eq.trans BitVec.toNat_inj.symm)
    · exact (gaugeOf_iff _).1
    · exact (gaugeOf_iff _).2
    · exact framePolicyOf_iff _
  · have hw : (snapshotOf h).windows[w.val] = windowOf h w := by simp [snapshotOf]
    rw [hw]
    exact ⟨hbase w, (hgran w).trans (congrArg word (windowAt_granules w.val))⟩

end Sys2Proof.Machine

/-! PROOFS. LOADING (10.2, R161, R164, R174, R176): the header's four reads, and a load that fails. -/

namespace Sys2Proof.Machine

/-! ### The header's parts -/

section
variable {m n i : Nat} (x : BitVec m)

theorem byteAt_append_low (y : BitVec n) (h : 8 * i + 8 ≤ n) : byteAt (x ++ y) i = byteAt y i := by
  refine BitVec.eq_of_getLsbD_eq fun j hj => ?_
  simp only [byteAt, field, BitVec.getLsbD_extractLsb', BitVec.getLsbD_append, show 8 * i + j < n by omega, if_true]

theorem byteAt_append_high (y : Read128) : byteAt (x ++ y) (128 + i) = byteAt x i := by
  refine BitVec.eq_of_getLsbD_eq fun j hj => ?_
  simp only [byteAt, field, BitVec.getLsbD_extractLsb', BitVec.getLsbD_append, show ¬ 8 * (128 + i) + j < 1024 by omega,
    if_false, show 8 * (128 + i) + j - 1024 = 8 * i + j by omega]

end

theorem headerOf_bytes (a b c d : Read128) (i : Nat) (hi : i < 128) : let h := headerOf [a, b, c, d]
    byteAt h i = byteAt a i ∧ byteAt h (128 + i) = byteAt b i ∧ byteAt h (256 + i) = byteAt c i
    ∧ byteAt h (384 + i) = byteAt d i := by
  have high : ∀ {k} (x : BitVec k) (y : Read128) (j : Nat), byteAt (x ++ y) (128 + j) = byteAt x j :=
    fun x y j => byteAt_append_high x y
  have low : ∀ {k} (x : BitVec k) (y : Read128), byteAt (x ++ y) i = byteAt y i :=
    fun x y => byteAt_append_low x y (by omega)
  refine ⟨low (d ++ c ++ b) a, (high (d ++ c ++ b) a i).trans (low (d ++ c) b), ?_, ?_⟩
  · rw [show 256 + i = 128 + (128 + i) by omega]
    exact (high (d ++ c ++ b) a _).trans ((high (d ++ c) b i).trans (low d c))
  · rw [show 384 + i = 128 + (128 + (128 + i)) by omega]
    exact (high (d ++ c ++ b) a _).trans ((high (d ++ c) b _).trans (high d c i))

section
variable {s : State} {l : Load}

theorem headerReadOk_part (hd : s.dc.device = .loading l) (data : Read128) (h : l.parts.length < 3) :
    headerReadOk data s = s.setDevice (.loading ⟨l.origin, l.parts ++ [data], false⟩) := by
  have hlen : (l.parts ++ [data]).length < 4 := by simp; omega
  simp only [headerReadOk, hd, hlen, if_true]

theorem headerReadOk_bad (hd : s.dc.device = .loading l) {data : Read128} (h : l.parts.length = 3) {n : Nat}
    (hp : parseHeader (headerOf (l.parts ++ [data])) = .error n) : headerReadOk data s = failLoad causeConfigBad s := by
  have hlen : ¬ (l.parts ++ [data]).length < 4 := by simp; omega
  simp only [headerReadOk, hd, hlen, if_false, hp]

theorem headerReadOk_good (hd : s.dc.device = .loading l) {data : Read128} (h : l.parts.length = 3) {n : Snapshot}
    (hp : parseHeader (headerOf (l.parts ++ [data])) = .ok n) : headerReadOk data s = enterRunning l.origin n s := by
  have hlen : ¬ (l.parts ++ [data]).length < 4 := by simp; omega
  simp only [headerReadOk, hd, hlen, if_false, hp]

theorem failLoad_eq (hd : s.dc.device = .loading l) (bit : BitVec 4) : failLoad bit s = { s with dc := { s.dc with
    device := if l.origin = .off then .off else .quiet, result := .refused
    cause := s.dc.cause ||| bit ||| (if s.dc.cause = 0 then 0 else 8#4) } } := by
  have ho : l.origin.state = if l.origin = .off then .off else .quiet := by cases l.origin <;> rfl
  have hc : raisedCause s.dc.cause bit = s.dc.cause ||| bit ||| (if s.dc.cause = 0 then 0 else 8#4) := by
    rw [raisedCause_eq]
    split
    · next h => rw [h]; simp
    · rfl
  simp only [failLoad, hd, raiseCause, hc, ho]
  rfl

end

/-- Settles O41: the header's bytes part by part, and the two ways a load fails. -/
theorem loadReadsFourPartsOrFails : Obligations.LoadReadsFourPartsOrFails := by
  unfold Obligations.LoadReadsFourPartsOrFails
  refine ⟨headerOf_bytes, fun s l ha hd => ⟨fun hi => ?_, fun hi => ?_, fun t address data ht hans => ?_⟩⟩
  · simp [request, walkerRequest, walkerClient, hd, hi]
  · simp [request, walkerRequest, walkerClient, hd, hi]
  · subst ht
    intro u failed
    have hx : exec (.boardHeaderReadDone data) s = .next (headerReadOk data u) := live_answers hans rfl
    have hy : exec .boardHeaderReadFault s = .next (failLoad causeBoardRead u) := live_answers hans rfl
    have hdu : u.dc.device = .loading l := hd
    rw [hx, hy]
    refine ⟨fun h => congrArg _ (headerReadOk_part hdu data h), fun h n hn => congrArg _ ?_, congrArg _ (failLoad_eq hdu _)⟩
    exact (headerReadOk_bad hdu h hn).trans (failLoad_eq hdu _)

end Sys2Proof.Machine

/-! PROOFS. Entry to RUNNING (R33, R34, R118, R124, R126, R145, R146, R177): what both load origins share, and the
entry from OFF. -/

namespace Sys2Proof.Machine

theorem configure_eq (r : Receiver) (e : Bool) : r.configure e = if e = true then
    { r with lock := if r.lock = .off then .hunting 0 else r.lock }
    else { r with lock := .off, frame := none, heldLevel := none, sampled := false } := by
  cases e with
  | false => rfl
  | true =>
    simp only [Receiver.configure, if_true]
    split
    · next h => rw [if_pos h]
    · next h => rw [if_neg (by rw [h]; exact nofun)]
    · next h => rw [if_neg (by rw [h]; exact nofun)]

theorem sweepFrom_eq (n : Snapshot) (t : Time) : sweepFrom n t = if n.sweepInterval = 0 then none
    else some (t + BitVec.ofNat 64 (100 * n.sweepInterval.toNat)) := by
  rw [sweepFrom, sweepPeriod, Nat.mul_comm]

theorem refreshFrom_eq (n : Snapshot) (t : Time) :
    refreshFrom n t = t + BitVec.ofNat 64 (1000 * n.refreshInterval.toNat) := by
  rw [refreshFrom, Nat.mul_comm]

section
variable {s : State}

/-- A lane refresh writes each lane's record as its receiver stands (R145). -/
theorem beginLaneRefresh_eq {lr : Lane → Receiver} (h : ∀ k, s.lr k = lr k) : beginLaneRefresh s = { s with rw := { s.rw with
    laneUnanswered := 12
    queue := s.rw.queue ++ allLanes.map fun k => .laneStatusWrite (s.board + BitVec.ofNat 64 (0xA00 + 32 * k.val))
      ⟨(lr k).lock, (lr k).counters, s.now⟩ } } := by
  obtain rfl : s.lr = lr := funext h
  rfl

theorem startRunning_lr (n : Snapshot) (k : Lane) :
    (startRunning n s).lr k = (s.lr k).configure n.lanes[k.val].enabled :=
  lr_configured s k fun k => n.lanes[k.val].enabled

end

/-- Settles O42: the entry's parts, block by block. -/
theorem entryToRunningFromOff : Obligations.EntryToRunningFromOff := by
  unfold Obligations.EntryToRunningFromOff
  intro s l t address data n ha hd ho hlen ht hans hp lr
  subst ht
  have hx : exec (.boardHeaderReadDone data) s = .next (enterRunning .off n (s.ended (.headerRead address))) := by
    refine (live_answers hans rfl).trans (congrArg _ ?_)
    rw [← ho]
    exact headerReadOk_good (s := s.ended (.headerRead address)) hd hlen hp
  rw [hx]
  have hlr : ∀ k, (s.lr k).configure n.lanes[k.val].enabled = lr k := fun k => configure_eq _ _
  refine congrArg _ ((beginLaneRefresh_eq (lr := lr) fun k => ?_).trans ?_)
  · exact (startRunning_lr (s := s.ended (.headerRead address)) n k).trans (hlr k)
  · rw [← sweepFrom_eq, ← refreshFrom_eq, ← funext hlr]
    rfl

end Sys2Proof.Machine

/-! PROOFS. Entry to RUNNING from QUIET (R137, R145, R146, R157, R158, R177 to R179). -/

namespace Sys2Proof.Machine

/-! ### A stream's test, and the tests in stream order -/

/-- The state once a stream has been put in a standing, a write for it perhaps queued, and the pending set is `p`. -/
def State.retested (s : State) (st : StreamId) (x : Standing) (w : Option Txn) (p : Vector Bool 24) : State :=
  { s.setStanding st x with rw := { s.rw with pendingSet := p, queue := s.rw.queue ++ w.toList } }

/-- A state differs from another in nothing but that. -/
def Retested (st : StreamId) (x : Standing) (w : Option Txn) (s t : State) : Prop := ∃ p, t = s.retested st x w p

section
variable {s : State} {st : StreamId} {b : Binding} {p : Phase} {o : CurrentOrder}

theorem Retested.unchanged {x : Standing} (h : s.standing st = x) : Retested st x none s s :=
  ⟨s.rw.pendingSet, by subst h; simp [State.retested]⟩

theorem retested_movedTo (q : Phase) : Retested st (.bound b q) none s (s.movedTo st b q) :=
  ⟨s.rw.pendingSet.set st.val true, by simp [State.retested, State.movedTo]⟩

theorem retested_pend (hw : s.working) {x : Standing} (h : s.standing st = x) : Retested st x none s (pend st s) :=
  ⟨s.rw.pendingSet.set st.val true, by rw [pend_of_working st hw]; subst h; simp [State.retested]⟩

theorem retested_enter (hw : s.working) (hs : s.standing st = .bound b p) (q : Phase) :
    Retested st (.bound b q) none s (enter st q s) := enter_eq_movedTo hw hs q ▸ retested_movedTo q

theorem retested_retire (hw : s.working) (hs : s.standing st = .bound b p) (ho : s.order? st = some o)
    (outcome : OrderOutcome) (reason : Reason) (next : CurrentOrder → Phase) :
    Retested st (.bound b (next o)) (some (.deviceHalfWrite st false o.address
      ⟨outcome, reason, o.counters, o.acceptTime, s.now⟩)) s (retire st outcome reason next s) :=
  ⟨s.rw.pendingSet.set st.val true, by
    simp only [retire, ho, enter_eq_movedTo hw hs]
    rfl⟩

/-- Tests of several streams in turn. -/
theorem retest_foldl {f : StreamId → State → State} {after : StreamId → Standing} {written : StreamId → Option Txn}
    {d : Control} (hf : ∀ st x, x.dc = d → x.standing st = s.standing st → Retested st (after st) (written st) x (f st x))
    (l : List StreamId) (hl : l.Nodup) (x : State) (hd : x.dc = d) (hx : ∀ st ∈ l, x.ctx st = s.ctx st) :
    ∃ ctxs q, l.foldl (fun x st => f st x) x = { x with
        streams := ctxs, rw := { x.rw with pendingSet := q, queue := x.rw.queue ++ l.filterMap written } }
      ∧ (∀ st ∈ l, ctxs[st.val] = { s.ctx st with standing := after st })
      ∧ ∀ st, st ∉ l → ctxs[st.val] = x.ctx st := by
  induction l generalizing x with
  | nil => exact ⟨x.streams, x.rw.pendingSet, by simp, (fun _ h => nomatch h), fun _ _ => rfl⟩
  | cons st l ih =>
    obtain ⟨hst, hl⟩ := List.nodup_cons.mp hl
    have hctx := hx st List.mem_cons_self
    obtain ⟨q, hq⟩ := hf st x hd (congrArg Context.standing hctx)
    have hother : ∀ y, y ≠ st → (f st x).ctx y = x.ctx y := fun y hy => by
      rw [hq]; exact ctx_setCtx_ne _ hy _
    obtain ⟨ctxs, q', heq, hin, hout⟩ := ih hl (f st x) (by rw [hq]; exact hd) fun y hy =>
      (hother y fun e => hst (e ▸ hy)).trans (hx y (List.mem_cons_of_mem _ hy))
    refine ⟨ctxs, q', ?_, fun y hy => ?_, fun y hy => ?_⟩
    · rw [List.foldl_cons, heq, hq, List.filterMap_cons]
      cases hw : written st with
      | none => simp [State.retested, State.setStanding, State.setCtx]
      | some w => simp [State.retested, State.setStanding, State.setCtx]
    · by_cases hyl : y ∈ l
      · exact hin y hyl
      · obtain rfl := (List.mem_cons.mp hy).resolve_right hyl
        rw [hout y hyl, hq, ← hctx]
        exact ctx_setCtx ..
    · rw [hout y fun h => hy (List.mem_cons_of_mem _ h)]
      exact hother y fun e => hy (e ▸ List.mem_cons_self)

/-! ### The tests of one stream -/

theorem ite_or {α : Type} (c d : Bool) (x y : α) :
    (if (c || d) = true then x else y) = if c = true then x else if d = true then x else y := by
  cases c <;> rfl

theorem entryTest_disabled (hs : s.standing st = .bound b p) (he : s.laneEnabled b.lane = false) :
    entryTest st s = laneDisabledFault st b s := by
  simp only [entryTest, hs, he, Bool.not_false, if_true]

theorem entryTest_armed {d : Option Time} (hs : s.standing st = .bound b (.armed o d)) (he : s.laneEnabled b.lane = true) :
    entryTest st s = (windowRetest st b o s).getD (deadlineRetest st d s) := by
  simp only [entryTest, hs, he, Bool.not_true, Bool.false_eq_true, if_false]

theorem entryTest_capturing (hs : s.standing st = .bound b (.capturing o)) (he : s.laneEnabled b.lane = true) :
    entryTest st s = (windowRetest st b o s).getD s := by
  simp only [entryTest, hs, he, Bool.not_true, Bool.false_eq_true, if_false]

theorem laneDisabledFault_noOrder (ho : s.order? st = none) :
    laneDisabledFault st b s = streamFault st .laneDisabled s := by
  simp only [laneDisabledFault, ho]

theorem retested_disabled (hw : s.working) (hs : s.standing st = .bound b p) (hp : ∀ c, p ≠ .faulted c)
    (ho : s.order? st = some o) : Retested st (.bound b (.faulted .laneDisabled))
      (if insideWindow (s.window b.window) o.address 128 = false then none else some (.deviceHalfWrite st false o.address
        ⟨.fault, .laneDisabled, o.counters, o.acceptTime, s.now⟩)) s (laneDisabledFault st b s) := by
  simp only [laneDisabledFault, ho, streamFault_eq_movedTo hw hs hp]
  cases insideWindow (s.window b.window) o.address 128 with
  | false => exact retested_movedTo _
  | true => exact ⟨s.rw.pendingSet.set st.val true, rfl⟩

/-- R178: the record's own range decides first, and then the order's ranges. -/
theorem windowRetest_outside (h : insideWindow (s.window b.window) o.address 128 = false) :
    windowRetest st b o s = some (enter st (.fetching (linkOf o)) s) := if_neg (by simp [h])

theorem windowRetest_inside (h : insideWindow (s.window b.window) o.address 128 = true) : windowRetest st b o s
    = (o.params.outside (s.window b.window)).map fun r => retire st .window r (fun o => .fetching (linkOf o)) s := if_pos h

theorem retested_deadline (hw : s.working) (hs : s.standing st = .bound b p) (ho : s.order? st = some o)
    (d : Option Time) : Retested st
      (if (d.map fun due => reached s.now due).getD false then .bound b (.fetching (linkOf o)) else .bound b p)
      (if (d.map fun due => reached s.now due).getD false then some (.deviceHalfWrite st false o.address
        ⟨.noTrigger, .pastAtEnable, o.counters, o.acceptTime, s.now⟩) else none) s (deadlineRetest st d s) := by
  cases d with
  | none => exact .unchanged hs
  | some due =>
    show Retested st (if reached s.now due then _ else _) (if reached s.now due then _ else _) s
      (if reached s.now due then _ else s)
    cases reached s.now due with
    | false => exact .unchanged hs
    | true => exact retested_retire hw hs ho _ _ _

/-- R178 and what follows it where every range lies inside. -/
theorem retested_window (hw : s.working) (hs : s.standing st = .bound b p) (ho : s.order? st = some o) {x : Standing}
    {w : Option Txn} {rest : State} (hr : Retested st x w s rest) :
    let inside := insideWindow (s.window b.window) o.address 128
    let pages := insideWindow (s.window b.window) o.params.pageBase (o.params.pageCount * (256 * 2 ^ o.params.sizeCode))
    let slots := insideWindow (s.window b.window) o.params.slotTable (32 * o.params.pageCount)
    let write (r : Reason) : Option Txn := some (.deviceHalfWrite st false o.address
      ⟨.window, r, o.counters, o.acceptTime, s.now⟩)
    Retested st (if !inside || !pages || !slots then .bound b (.fetching (linkOf o)) else x)
      (if inside = false then none else if pages = false then write .pagesOutside
        else if slots = false then write .slotsOutside else w)
      s ((windowRetest st b o s).getD rest) := by
  intro inside pages slots write
  cases hi : inside with
  | false => rw [windowRetest_outside hi]; exact retested_enter hw hs _
  | true =>
    rw [windowRetest_inside hi]
    cases hp : pages with
    | false => rw [outside_pages hp]; exact retested_retire hw hs ho _ _ _
    | true =>
      cases hsl : slots with
      | false => rw [outside_slots hp hsl]; exact retested_retire hw hs ho _ _ _
      | true => rw [outside_none hp hsl]; exact hr

end

/-- Settles O43: each stream's test by its standing, and the tests in stream order. -/
theorem entryToRunningFromQuiet : Obligations.EntryToRunningFromQuiet := by
  unfold Obligations.EntryToRunningFromQuiet
  intro s l t address data n ha hd ho hlen ht hans hp lr enabled inside pages slots late dropped write after written hnh
  subst ht
  have hx : exec (.boardHeaderReadDone data) s = .next (enterRunning .quiet n (s.ended (.headerRead address))) := by
    refine (live_answers hans rfl).trans (congrArg _ ?_)
    rw [← ho]
    exact headerReadOk_good (s := s.ended (.headerRead address)) hd hlen hp
  rw [hx]
  have hlr : ∀ k, (s.lr k).configure n.lanes[k.val].enabled = lr k := fun k => configure_eq _ _
  have htest : ∀ st x, x.dc = (startRunning n (s.ended (.headerRead address))).dc → x.standing st = s.standing st →
      Retested st (after st) (written st) x (entryTest st x) := by
    intro st x hdc hst
    have hw : x.working := .inl (by rw [hdc]; rfl)
    have hnow : x.now = s.now := by rw [State.now, hdc]; rfl
    have hsnap : x.dc.snapshot = some n := by rw [hdc]; rfl
    have hwin : ∀ b : Binding, x.window b.window = n.windows[b.window.val] := fun b => by simp [State.window, hsnap]
    have hen : ∀ k, x.laneEnabled k = n.lanes[k.val].enabled := fun k => laneEnabled_of_snapshot hsnap k
    simp only [after, written, dropped, pages, slots, inside, late, enabled, write, ← hwin, ← hen, ← hnow, ← hst]
    have horder : ∀ {y}, x.standing st = y → x.order? st = y.order? := fun h => by rw [State.order?, h]
    cases hs : x.standing st with
    | idle =>
      have hi : entryTest st x = x := by simp only [entryTest, hs]
      rw [hi]
      exact .unchanged hs
    | bound b p =>
      cases he : x.laneEnabled b.lane with
      | false =>
        rw [entryTest_disabled hs he]
        cases p with
        | armed o d | capturing o =>
          simp only [he, if_true]
          exact retested_disabled hw hs (fun _ => nofun) (horder hs)
        | halting o => exact absurd (hst.symm.trans hs) (hnh st b o)
        | faulted c =>
          have hf : streamFault st .laneDisabled x = pend st x := by simp only [streamFault, hs]
          rw [laneDisabledFault_noOrder (horder hs), hf]
          simp only [he, if_true]
          exact retested_pend hw hs
        | _ =>
          rw [laneDisabledFault_noOrder (horder hs), streamFault_eq_movedTo hw hs fun _ => nofun]
          simp only [he, if_true]
          exact retested_movedTo _
      | true =>
        cases p with
        | armed o d =>
          rw [entryTest_armed hs he]
          simp only [he, Bool.true_eq_false, if_false]
          rw [ite_or]
          exact retested_window hw hs (horder hs) (retested_deadline hw hs (horder hs) d)
        | capturing o =>
          rw [entryTest_capturing hs he]
          simp only [he, Bool.true_eq_false, if_false, Option.map_none, Option.getD_none, Bool.or_false]
          exact retested_window hw hs (horder hs) (.unchanged hs)
        | _ =>
          have hi : entryTest st x = x := by simp only [entryTest, hs, he, Bool.not_true, Bool.false_eq_true, if_false]
          rw [hi]
          simp only [he, Bool.true_eq_false, if_false]
          exact .unchanged hs
  obtain ⟨ctxs, q, heq, hin, -⟩ := retest_foldl htest allStreams (List.nodup_finRange _)
    (startRunning n (s.ended (.headerRead address))) rfl fun _ _ => rfl
  have hdone : resumeFromQuiet (startRunning n (s.ended (.headerRead address))) = beginLaneRefresh
      { startRunning n (s.ended (.headerRead address)) with
        streams := ctxs
        rw := { (startRunning n (s.ended (.headerRead address))).rw with
          pendingSet := Vector.replicate 24 true, queue := s.rw.queue ++ allStreams.filterMap written } } := by
    rw [resumeFromQuiet, heq]
    rfl
  refine ⟨_, congrArg _ (hdone.trans (beginLaneRefresh_eq (lr := lr) fun k => ?_)), fun st => ?_, ?_⟩
  · exact (startRunning_lr (s := s.ended (.headerRead address)) n k).trans (hlr k)
  · exact hin st (List.mem_finRange _)
  · rw [← sweepFrom_eq, ← refreshFrom_eq, ← funext hlr]
    rfl

end Sys2Proof.Machine

/-! PROOFS. The frame-end decision and the writes of a commit (R19, R54, R58 to R73, R87, R94, R154, R156, R159). -/

namespace Sys2Proof.Machine

/-! ### Slot flags, the gate and GAP -/

theorem slotFlags_bits : ∀ check length truncated gap mark margin : Bool,
    let x := slotFlags check length truncated gap mark margin
    x.getLsbD 0 = check ∧ x.getLsbD 1 = length ∧ x.getLsbD 2 = truncated ∧ x.getLsbD 3 = gap ∧ x.getLsbD 4 = mark
      ∧ x.getLsbD 5 = margin ∧ x.toNat < 64 := by decide

/-- R87: the frame passes its order's gate. -/
def Gate.passes (gate : Gate) (level gauge : Word) : Prop := gate = .none
  ∨ (gate = .atOrAbove ∧ level.toNat ≤ gauge.toNat) ∨ (gate = .below ∧ gauge.toNat < level.toNat)

theorem applyGate_eq_none {gate : Gate} {level gauge : Word} (h : ¬ gate.passes level gauge) :
    applyGate gate level gauge = none := by
  cases gate with
  | none => exact absurd (.inl rfl) h
  | atOrAbove => exact if_neg fun hl => h (.inr (.inl ⟨rfl, hl⟩))
  | below => exact if_neg fun hl => h (.inr (.inr ⟨rfl, hl⟩))

/-- The gauge value of a frame that passes: its gauge, or how far that is from the level. -/
def Gate.value (level gauge : Word) : Gate → Nat
  | .none => gauge.toNat
  | .atOrAbove => gauge.toNat - level.toNat
  | .below => level.toNat - gauge.toNat

theorem applyGate_of_passes {gate : Gate} {level gauge : Word} (h : gate.passes level gauge) :
    ∃ v, applyGate gate level gauge = some v ∧ v.toNat = gate.value level gauge := by
  have sub : ∀ a b : Word, b.toNat ≤ a.toNat → (a - b).toNat = a.toNat - b.toNat := fun a b hle => by
    rw [BitVec.toNat_sub_of_le hle]
  rcases h with rfl | ⟨rfl, hl⟩ | ⟨rfl, hl⟩
  · exact ⟨gauge, rfl, rfl⟩
  · exact ⟨_, if_pos hl, sub _ _ hl⟩
  · exact ⟨_, if_pos hl, sub _ _ (by omega)⟩

theorem gapOf_some (last number : Half) :
    ((gapOf (some last) number).1 = true ↔ (number - last).toNat ≠ 1)
    ∧ (gapOf (some last) number).2 = if (number - last).toNat = 1 then 0 else number - last - 1 := by
  have h1 : number - last = 1 ↔ (number - last).toNat = 1 := BitVec.toNat_inj.symm
  simp only [gapOf, h1]
  split
  · next h => exact ⟨iff_of_false Bool.false_ne_true (not_not.mpr h), rfl⟩
  · next h => exact ⟨iff_of_true rfl h, rfl⟩

/-! ### The decision -/

/-- The frame as a commit has it: GAP and MARGIN are known (R67, R68). -/
def State.frameToCommit (s : State) (o : CurrentOrder) (f : FlightFrame) : FlightFrame :=
  { f with gap := (gapOf (s.ctx f.stream).lastSource f.sourceNumber).1, margin := o.params.gate != .none }

section
variable {s : State} {k : Lane} {f : FlightFrame} {p : Placement} {e : FrameEnd} {b : Binding} {halting : Bool}
  {o : CurrentOrder}

theorem frameDecision_gated (hw : s.lw k = .closing f p) (he : f.ended = some e) (ho : s.order? f.stream = some o)
    (h0 : p.outstanding = 0) (hg : applyGate o.params.gate o.params.gateLevel e.gauge = none) :
    frameDecision k s = haltingEnd k f.stream (count f.stream Counters.addGated (s.setLw k .idle)) := by
  simp only [frameDecision, hw, he, ho, h0, if_true, hg]

theorem frameDecision_commits (hw : s.lw k = .closing f p) (he : f.ended = some e) (ho : s.order? f.stream = some o)
    (h0 : p.outstanding = 0) {value : Word} (hg : applyGate o.params.gate o.params.gateLevel e.gauge = some value) :
    frameDecision k s = commitFrame k o f p value s := by
  simp only [frameDecision, hw, he, ho, h0, if_true, hg]

/-- A frame that has ended with no write outstanding is decided (R66). -/
theorem frameDecision_decides (hwk : s.working) (hw : s.lw k = .closing f p) (he : f.ended = some e)
    (hs : s.standing f.stream = .bound b (.current halting o)) (hk : halting = true → b.lane = k)
    (h0 : p.outstanding = 0) : EndDecision k s f p e b halting o (frameDecision k s) := by
  have ho := order?_of_current hs
  unfold EndDecision
  intro level passes
  refine ⟨fun hn => ?_, fun hp => ?_⟩
  · rw [frameDecision_gated hw he ho h0 (applyGate_eq_none hn)]
    exact haltingEnd_count (s := s.setLw k .idle) hs (fun h => ⟨hk h, hwk⟩) _
  · obtain ⟨value, hv, hgauge⟩ := applyGate_of_passes hp
    rw [frameDecision_commits hw he ho h0 hv]
    obtain ⟨hchk, hlen, htr, hgap, hmark, hmargin, hlt⟩ := slotFlags_bits e.check e.length f.truncated
      (gapOf (s.ctx f.stream).lastSource f.sourceNumber).1 f.mark (o.params.gate != .none)
    have hflags : (s.frameToCommit o f).flags = slotFlags e.check e.length f.truncated
        (gapOf (s.ctx f.stream).lastSource f.sourceNumber).1 f.mark (o.params.gate != .none) := by
      simp only [FlightFrame.flags, State.frameToCommit, he, Option.map_some, Option.getD_some]
    have hpl : { p with outstanding := 0 } = p := by rw [← h0]
    refine ⟨slotMetaOf o (s.frameToCommit o f) p value s.now, (gapOf (s.ctx f.stream).lastSource f.sourceNumber).1,
      (gapOf (s.ctx f.stream).lastSource f.sourceNumber).2, by rw [hpl]; rfl, rfl, rfl, rfl, rfl, hgauge, ?_⟩
    simp only [slotMetaOf, hflags]
    refine ⟨hchk, hlen, htr, hgap, hmark, ?_, hlt, fun last hl => ?_, fun hl => ?_⟩
    · rw [hmargin, bne_iff_ne]
    · rw [hl]; exact gapOf_some last f.sourceNumber
    · rw [hl]; exact ⟨rfl, rfl⟩

end

end Sys2Proof.Machine

/-! PROOFS. Answers to the Lane Writers (R19, R54, R58 to R68, R154, R156, R159). -/

namespace Sys2Proof.Machine

section
variable {s : State} {k : Lane} {f : FlightFrame} {p : Placement} {e : FrameEnd} {b : Binding} {halting : Bool}
  {o : CurrentOrder} {d : DroppedFrame}

/-! ### A dropped frame -/

theorem dropAnswered_dropping (hw : s.lw k = .dropping d) :
    dropAnswered k s = setDrop k { d with outstanding := d.outstanding - 1 } s := by
  simp only [dropAnswered, hw]

theorem dropAnswered_more (hw : s.lw k = .dropping d) (h : 1 < d.outstanding) :
    dropAnswered k s = s.setLw k (.dropping { d with outstanding := d.outstanding - 1 }) := by
  rw [dropAnswered_dropping hw]
  exact if_neg (Nat.sub_ne_zero_of_lt h)

theorem dropAnswered_last (hw : s.lw k = .dropping d) (h : d.outstanding = 1) :
    dropAnswered k s = finishDrop k { d with outstanding := 0 } s := by
  rw [dropAnswered_dropping hw, h]
  exact if_pos rfl

/-- The last answer to a dropped frame whose stream's order is current: a loss still to be counted is counted, and the
frame is over (R19, R65). -/
theorem finishDrop_current (hwk : s.working) (hd : d.disowned = false) (hr : d.retirement = none)
    (hs : s.standing d.stream = .bound b (.current halting o)) (hk : halting = true → b.lane = k) :
    finishDrop k d s = (s.setLw k .idle).frameOver d.stream b halting (if d.countLost then o.oneLost else o) := by
  have hwk' : (s.setLw k .idle).working := hwk
  have hs' : (s.setLw k .idle).standing d.stream = .bound b (.current halting o) := hs
  simp only [finishDrop, hd, hr, if_pos hwk', Bool.not_false, Bool.and_true, Bool.false_eq_true, if_false]
  cases d.countLost with
  | true => exact haltingEnd_count hs' (fun h => ⟨hk h, hwk⟩) _
  | false => exact haltingEnd_current hs' fun h => ⟨hk h, hwk⟩

/-- The last answer, with nothing to count and nothing to hand over. -/
theorem dropAnswered_plain (hwk : s.working) (hw : s.lw k = .dropping d) (h : d.outstanding = 1) (hc : d.countLost = false)
    (hr : d.retirement = none) (hn : d.disowned = false → ∀ b o, s.standing d.stream ≠ .bound b (.halting o)) :
    dropAnswered k s = s.setLw k .idle := by
  rw [dropAnswered_last hw h]
  exact finishDrop_plain (d := { d with outstanding := 0 }) hwk hc hr hn

/-- The last answer to a frame whose stream's order is current. -/
theorem dropAnswered_current (hwk : s.working) (hw : s.lw k = .dropping d) (h : d.outstanding = 1) (hd : d.disowned = false)
    (hr : d.retirement = none) (hs : s.standing d.stream = .bound b (.current halting o))
    (hk : halting = true → b.lane = k) :
    dropAnswered k s = (s.setLw k .idle).frameOver d.stream b halting (if d.countLost then o.oneLost else o) := by
  rw [dropAnswered_last hw h]
  exact finishDrop_current (d := { d with outstanding := 0 }) hwk hd hr hs hk

/-- A frame given up in the search, counted as `g` has it (R60, R62). -/
theorem startDrop_searched (hwk : s.working) (hs : s.standing f.stream = .bound b (.current halting o))
    (hk : halting = true → b.lane = k) (g : Counters → Counters) :
    startDrop k (plainDrop f none 0) (count f.stream g s)
      = ((stopStaging k s).setLw k .idle).frameOver f.stream b halting { o with counters := g o.counters } := by
  have hfin : startDrop k (plainDrop f none 0) (count f.stream g s)
      = finishDrop k (plainDrop f none 0) (stopStaging k (count f.stream g s)) := by
    rw [startDrop, setDrop]
    exact if_pos rfl
  have hc : (stopStaging k (count f.stream g s)).standing f.stream
      = .bound b (.current halting { o with counters := g o.counters }) := by
    rw [count_current hs]
    exact standing_setStanding ..
  rw [hfin, finishDrop_current (s := stopStaging k (count f.stream g s)) (d := plainDrop f none 0) hwk rfl rfl hc hk, count_current hs]
  exact frameOver_setStanding ((stopStaging k s).setLw k .idle) f.stream _ b halting _

/-! ### A slot read's data -/

theorem mapOrder_current {st : StreamId} (h : s.standing st = .bound b (.current halting o))
    (g : CurrentOrder → CurrentOrder) : mapOrder st g s = s.setStanding st (.bound b (.current halting (g o))) := by
  cases halting <;> simp [mapOrder, h, Standing.mapOrder, Phase.mapOrder, Phase.current]

/-- A decision taken in one of a lane's writer states is the same for any other: the writer is set anew. -/
theorem EndDecision.of_setLw {w : Writer} {got : State} (h : EndDecision k (s.setLw k w) f p e b halting o got) :
    EndDecision k s f p e b halting o got := by
  unfold EndDecision at h ⊢
  simp only [setLw_setLw] at h
  exact h

/-- A free slot binds the frame (R61, R64), which is decided at once where nothing of it is left to place. -/
theorem bindFrame_eq (hs : s.standing f.stream = .bound b (.current halting o)) (slot : Nat) (fill : Half) :
    let staged := (s.lr k).staging.bytes
    let f' := { f with truncated := f.truncated || decide (256 * 2 ^ o.params.sizeCode < staged.length) }
    let place : Placement := ⟨slot, o.params.pageBase + BitVec.ofNat 64 (slot * (256 * 2 ^ o.params.sizeCode)), fill, 0, 0⟩
    let x := (s.setStanding f.stream (.bound b (.current halting { o with cursor := slot }))).setLr k { s.lr k with
      staging := { (s.lr k).staging with bytes := staged.take (256 * 2 ^ o.params.sizeCode) } }
    bindFrame k o f slot fill s = if f.ended.isSome = true ∧ staged = []
      then frameDecision k (x.setLw k (.closing f' place)) else x.setLw k (.placing f' place) := by
  intro staged f' place x
  have hb : bindFrame k o f slot fill s = advance k (x.setLw k (.placing f' place)) := by
    rw [bindFrame, mapOrder_current hs]
    rfl
  have ho : (x.setLw k (.placing f' place)).order? f'.stream = some { o with cursor := slot } :=
    order?_of_current (standing_setStanding ..)
  have hst : ((x.setLw k (.placing f' place)).lr k).staging.bytes = staged.take (256 * 2 ^ o.params.sizeCode) := by
    rw [setLw_lr, lr_setLr]
  have hpos : 0 < 256 * 2 ^ o.params.sizeCode := by positivity
  have hnil : staged.take (256 * 2 ^ o.params.sizeCode) = [] ↔ staged = [] := by
    rw [List.take_eq_nil_iff]
    exact or_iff_right hpos.ne'
  have hcond : (place.offset = 256 * 2 ^ o.params.sizeCode ∨ (f'.ended.isSome = true ∧
      ((x.setLw k (.placing f' place)).lr k).staging.bytes = [])) ↔ (f.ended.isSome = true ∧ staged = []) := by
    rw [hst, hnil]
    exact or_iff_right hpos.ne
  rw [hb, advance_placing (lw_setLw ..) ho, setLw_setLw]
  exact if_congr hcond rfl rfl

theorem slotReadOk_searching {slot read : Nat} (hw : s.lw k = .searching f slot read true) (ho : s.order? f.stream = some o)
    (data : Read16) : slotReadOk k data s = if slotFree data then bindFrame k o f slot (slotFill data) s
      else if o.params.policy = .seek ∧ read + 1 < o.params.pageCount then
        s.setLw k (.searching f ((slot + 1) % o.params.pageCount) (read + 1) false)
      else startDrop k (plainDrop f none 0) (count f.stream Counters.addHeld s) := by
  simp only [slotReadOk, hw, searchAnswered, ho]

theorem slotFree_iff (data : Read16) : slotFree data = true ↔ (field data 2 2 : Half) = (field data 0 2 : Half) := beq_iff_eq

end

/-- Settles O44: a slot read's data in the search, and in DROPPING. -/
theorem slotReadBindsOrGoesOn : Obligations.SlotReadBindsOrGoesOn := by
  unfold Obligations.SlotReadBindsOrGoesOn
  intro s k t address data ht hans hw u run free staged
  subst ht
  have hwu : u.working := hw
  have hx : run = .next (slotReadOk k data u) := live_answers hans rfl
  rw [hx]
  refine ⟨fun f slot read b halting o hl hs hk => ?_, fun d hl => ?_⟩
  · intro size o' x place
    have hlu : u.lw k = .searching f slot read true := hl
    have hsu : u.standing f.stream = .bound b (.current halting o) := hs
    rw [slotReadOk_searching hlu (order?_of_current hsu)]
    refine ⟨fun hf h => ?_, fun e hf he hst => ?_, fun hf hp hr => ?_, fun hf h => ?_⟩
    · rw [if_pos ((slotFree_iff data).mpr hf), bindFrame_eq hsu]
      refine congrArg _ (if_neg fun hc => ?_)
      rcases h with h | h
      · rw [h] at hc; exact nomatch hc.1
      · exact h hc.2
    · rw [if_pos ((slotFree_iff data).mpr hf), bindFrame_eq hsu, if_pos ⟨by rw [he]; rfl, hst⟩]
      have hstu : (u.lr k).staging.bytes = [] := hst
      have hf' : ({ f with truncated := f.truncated || decide (256 * 2 ^ o.params.sizeCode
          < (u.lr k).staging.bytes.length) } : FlightFrame) = f := by
        rw [hstu]; simp
      have hx' : x.setLr k { u.lr k with staging := { (u.lr k).staging with
          bytes := (u.lr k).staging.bytes.take (256 * 2 ^ o.params.sizeCode) } } = x := by
        rw [hstu, List.take_nil, ← hstu]
        exact setLr_lr (s := x) k
      rw [hf', hx']
      exact ⟨_, rfl, .of_setLw (frameDecision_decides (s := x.setLw k (.closing f place)) hwu (lw_setLw ..) he
        (standing_setStanding ..) hk rfl)⟩
    · rw [if_neg fun h => hf ((slotFree_iff data).mp h), if_pos ⟨hp, hr⟩]
    · rw [if_neg fun h => hf ((slotFree_iff data).mp h), if_neg fun hc => ?_, startDrop_searched hwu hsu hk]
      · rfl
      · rcases h with h | h
        · rw [h] at hc; exact nomatch hc.1
        · omega
  · have hlu : u.lw k = .dropping d := hl
    have hd : slotReadOk k data u = dropAnswered k u := by simp only [slotReadOk, hlu]
    rw [hd]
    refine ⟨fun h => congrArg _ (dropAnswered_more hlu h), fun h hc hr hn => congrArg _ (dropAnswered_plain hwu hlu h hc hr hn),
      fun h hc hr hdis b o hs hk => congrArg _ ?_⟩
    rw [dropAnswered_current (halting := true) hwu hlu h hdis hr hs fun _ => hk, hc]
    rfl

end Sys2Proof.Machine

/-! PROOFS. Answers to data writes, and the two writes of a commit (R19, R63 to R73, R76, R87, R94, R154, R156, R159). -/

namespace Sys2Proof.Machine

section
variable {s : State} {k : Lane} {f : FlightFrame} {p : Placement} {d : DroppedFrame}

/-- The last answer to a frame whose stream is FAULTED or forgotten: a FAULT retirement that waits is handed over. -/
theorem dropAnswered_over (hwk : s.working) (hw : s.lw k = .dropping d) (h : d.outstanding = 1)
    (hd : d.disowned = true ∨ ∃ b c, s.standing d.stream = .bound b (.faulted c)) :
    (d.retirement = none → dropAnswered k s = s.setLw k .idle)
    ∧ ∀ a x, d.retirement = some (a, x) → dropAnswered k s = { s.setLw k .idle with rw := { s.rw with
        pendingSet := s.rw.pendingSet.set d.stream.val true
        queue := s.rw.queue ++ [.deviceHalfWrite d.stream d.disowned a x] } } := by
  have hf := finishDrop_over (k := k) (d := { d with outstanding := 0 }) hwk hd
  rw [dropAnswered_last hw h, hf]
  exact ⟨fun hr => by simp only [hr], fun a x hr => by simp only [hr]; rfl⟩

/-- The frame-end decision waits for END (R66). -/
theorem frameDecision_unended (hw : s.lw k = .closing f p) (he : f.ended = none) : frameDecision k s = s := by
  simp only [frameDecision, hw, he]
  cases s.order? f.stream with
  | none => rfl
  | some o => rfl

theorem dataWriteOk_closing (hw : s.lw k = .closing f p) : dataWriteOk k s
    = frameDecision k (s.setLw k (.closing f { p with outstanding := p.outstanding - 1 })) := by
  simp only [dataWriteOk, hw]

end

/-- Settles O45: the decision where it is due, and each answer by the writer's state. -/
theorem dataWriteDoneAndTheFrameEnd : Obligations.DataWriteDoneAndTheFrameEnd := by
  unfold Obligations.DataWriteDoneAndTheFrameEnd
  refine ⟨fun s k f p e b halting o hwk hw he hs hk => ⟨frameDecision_decides hwk hw he hs hk,
    frameDecision_outstanding hw⟩, ?_⟩
  intro s k t address bytes ht hans hwk u run
  subst ht
  have hwu : u.working := hwk
  have hx : run = .next (dataWriteOk k u) := live_answers hans rfl
  rw [hx]
  refine ⟨fun f p hl => ?_, fun f p hl h h0 => congrArg _ ?_, fun f p e b halting o hl he hs hk h1 => ?_, fun d hl => ?_⟩
  · have hlu : u.lw k = .placing f p := hl
    simp only [dataWriteOk, hlu]
  · rw [dataWriteOk_closing (s := u) hl]
    rcases h with h | h
    · exact frameDecision_unended (lw_setLw ..) h
    · refine frameDecision_outstanding (lw_setLw ..) ?_
      show p.outstanding - 1 ≠ 0
      omega
  · rw [dataWriteOk_closing (s := u) hl]
    have hdec : EndDecision k u f { p with outstanding := p.outstanding - 1 } e b halting o _ :=
      .of_setLw (frameDecision_decides (s := u.setLw k _) hwu (lw_setLw ..) he hs hk (Nat.sub_eq_zero_of_le h1.le))
    exact ⟨_, rfl, hdec⟩
  · have hlu : u.lw k = .dropping d := hl
    have hd : dataWriteOk k u = dropAnswered k u := by simp only [dataWriteOk, hlu]
    rw [hd]
    refine ⟨fun h => congrArg _ (dropAnswered_more hlu h), fun h hdis hr => ⟨fun b halting o hs hk => congrArg _
      (dropAnswered_current hwu hlu h hdis hr hs hk), fun hc hn => congrArg _ (dropAnswered_plain hwu hlu h hc hr
      fun _ => hn)⟩, fun h hdis => ?_⟩
    obtain ⟨hnone, hsome⟩ := dropAnswered_over hwu hlu h hdis
    exact ⟨fun hr => congrArg _ (hnone hr), fun a x hr => congrArg _ (hsome a x hr)⟩

/-! ### The writes of a commit -/

section
variable {s : State} {k : Lane} {f : FlightFrame} {p : Placement} {mb : Half} {b : Binding} {o : CurrentOrder}

theorem metadataOk_committing (hw : s.lw k = .committing f p .metadata mb) (ho : s.order? f.stream = some o) :
    metadataOk k s = enqueue (.fillWrite k (o.slotAddress p.slot) (p.fill + 1)) (s.setLw k (.committing f p .fill mb)) := by
  simp only [metadataOk, hw, ho]

/-- The state once a frame's commit is counted, its writer IDLE and its stream in the phase `x` (R70). -/
def State.committedTo (s : State) (k : Lane) (f : FlightFrame) (mb : Half) (b : Binding) (x : Phase) : State :=
  (s.setLw k .idle).setCtx f.stream { s.ctx f.stream with standing := .bound b x, lastSource := some f.sourceNumber
                                                          missed := (s.ctx f.stream).missed + mb.setWidth 32 }

theorem standing_committedTo (x : Phase) : (s.committedTo k f mb b x).standing f.stream = .bound b x :=
  congrArg Context.standing (ctx_setCtx ..)

theorem setStanding_committedTo (x y : Phase) :
    (s.committedTo k f mb b x).setStanding f.stream (.bound b y) = s.committedTo k f mb b y := by
  rw [State.setStanding, State.committedTo, ctx_setCtx, setCtx_setCtx]
  rfl

/-- R70 as the spec says it. -/
theorem addCommit_eq (slot : Nat) (number : Half) : o.addCommit slot number = { o with
    counters := { o.counters with
      committed := o.counters.committed + 1, last := some number
      first := if o.counters.first = none then some number else o.counters.first }
    cursor := (slot + 1) % o.params.pageCount, commitsSince := o.commitsSince + 1 } := by
  have hf : some (o.counters.first.getD number) = if o.counters.first = none then some number else o.counters.first := by
    cases o.counters.first <;> rfl
  rw [← hf]
  rfl

theorem completeCommit_eq {halting : Bool} (hs : s.standing f.stream = .bound b (.current halting o)) :
    completeCommit k f p mb s = afterCommit f.stream
      (s.committedTo k f mb b (.current halting (o.addCommit p.slot f.sourceNumber))) := by
  have hst : (s.ctx f.stream).standing = .bound b (.current halting o) := hs
  have hm : (Standing.bound b (.current halting o)).mapOrder (fun o => o.addCommit p.slot f.sourceNumber)
      = .bound b (.current halting (o.addCommit p.slot f.sourceNumber)) := by cases halting <;> rfl
  simp only [completeCommit, hst, hm]
  rfl

/-- What the commit's test retires. -/
theorem retire_committedTo (hwk : s.working) {q : Phase} (hq : (Standing.bound b q).order? = some o)
    (outcome : OrderOutcome) (reason : Reason) (next : CurrentOrder → Phase) :
    retire f.stream outcome reason next (s.committedTo k f mb b q) = { s.committedTo k f mb b (next o) with rw := { s.rw with
      pendingSet := s.rw.pendingSet.set f.stream.val true
      queue := s.rw.queue ++ [.deviceHalfWrite f.stream false o.address
        ⟨outcome, reason, o.counters, o.acceptTime, s.now⟩] } } := by
  have hst : (s.committedTo k f mb b q).standing f.stream = .bound b q := standing_committedTo q
  have ho : (s.committedTo k f mb b q).order? f.stream = some o := by rw [State.order?, hst, hq]
  simp only [retire, ho]
  rw [handHalf_enter (s := s.committedTo k f mb b q) hwk hst, setStanding_committedTo]
  rfl

theorem completed_single (h : o.params.kind = .single) : o.completed = some .singleMet := by
  simp only [CurrentOrder.completed, h]

theorem completed_count (h : o.params.kind = .count ∧ o.counters.committed = o.params.target) :
    o.completed = some .countMet := by
  simp only [CurrentOrder.completed, h.1, h.2, if_true]

theorem completed_none (h1 : o.params.kind ≠ .single) (h2 : ¬ (o.params.kind = .count ∧ o.counters.committed = o.params.target)) :
    o.completed = none := by
  unfold CurrentOrder.completed
  split
  · next h => exact absurd h h1
  · next h => exact if_neg fun hc => h2 ⟨h, hc⟩
  · rfl

theorem afterCommit_completed {halting : Bool} {st : StreamId} (hs : s.standing st = .bound b (.current halting o))
    {r : Reason} (hc : o.completed = some r) : afterCommit st s
      = retire st .done r (fun o => if halting then .halted (linkOf o) else .fetching (linkOf o)) s := by
  cases halting with
  | false => simp only [afterCommit, show s.standing st = .bound b (.capturing o) from hs, hc]; rfl
  | true => simp only [afterCommit, show s.standing st = .bound b (.halting o) from hs, hc]; rfl

theorem afterCommit_cut {st : StreamId} (hs : s.standing st = .bound b (.halting o)) (hc : o.completed = none) :
    afterCommit st s = retire st .cut .haltedInFlight (fun o => .halted (linkOf o)) s := by
  simp only [afterCommit, hs, hc]

theorem afterCommit_goesOn {st : StreamId} (hs : s.standing st = .bound b (.capturing o)) (hc : o.completed = none) :
    afterCommit st s = progress st s := by
  simp only [afterCommit, hs, hc]

/-- The progress test at the interval (R72). -/
theorem progress_due (hwk : s.working) (h : o.params.reportInterval ≠ 0 ∧ o.commitsSince = o.params.reportInterval) :
    progress f.stream (s.committedTo k f mb b (.capturing o))
      = { s.committedTo k f mb b (.capturing { o with commitsSince := 0 }) with rw := { s.rw with
        pendingSet := s.rw.pendingSet.set f.stream.val true
        queue := s.rw.queue ++ [.deviceHalfWrite f.stream false o.address
          ⟨.active, .none, o.counters, o.acceptTime, 0⟩] } } := by
  have hst : (s.committedTo k f mb b (.capturing o)).standing f.stream = .bound b (.current false o) :=
    standing_committedTo _
  simp only [progress, order?_of_current hst, h.1, h.2, ne_eq, not_false_eq_true, and_self, if_true]
  rw [mapOrder_current hst]
  exact (pend_of_working f.stream (s := handHalf f.stream o.address (o.half .active .none 0)
    ((s.committedTo k f mb b (.capturing o)).setStanding f.stream _)) hwk).trans (by
      rw [setStanding_committedTo (s := s)]; rfl)

theorem progress_notDue (h : o.params.reportInterval = 0 ∨ o.commitsSince ≠ o.params.reportInterval) :
    progress f.stream (s.committedTo k f mb b (.capturing o)) = s.committedTo k f mb b (.capturing o) := by
  have hst : (s.committedTo k f mb b (.capturing o)).standing f.stream = .bound b (.current false o) :=
    standing_committedTo _
  simp only [progress, order?_of_current hst]
  exact if_neg fun hc => h.elim hc.1 fun h => h hc.2

end

/-- Settles O46: each write's answer; the completion test, then the progress test. -/
theorem commitWritesAndCompletion : Obligations.CommitWritesAndCompletion := by
  unfold Obligations.CommitWritesAndCompletion
  intro s k t hans hwk u
  have hwu : u.working := hwk
  have hmeta : ∀ a m, t = .metadataWrite k a m → exec .metadataWriteDone s = .next (metadataOk k u) := by
    rintro a m rfl
    exact live_answers hans rfl
  have hfill : ∀ a v, t = .fillWrite k a v → exec .fillWriteDone s = .next (fillOk k u) := by
    rintro a v rfl
    exact live_answers hans rfl
  refine ⟨fun a m f p mb b o ht hl hs => ?_, fun d hl h hc hr hn => ?_, fun a v f p mb b o ht hl => ?_⟩
  · have ho : u.order? f.stream = some o := by
      rcases hs with hs | hs
      · exact order?_of_current (halting := false) hs
      · exact order?_of_current (halting := true) hs
    rw [hmeta a m ht, metadataOk_committing (s := u) hl ho]
    rfl
  · have hlu : u.lw k = .dropping d := hl
    have hm : metadataOk k u = dropAnswered k u := by simp only [metadataOk, hlu]
    have hf : fillOk k u = dropAnswered k u := by simp only [fillOk, hlu]
    have hd := dropAnswered_plain hwu hlu h hc hr hn
    exact ⟨fun a m ht => by rw [hmeta a m ht, hm, hd], fun a v ht => by rw [hfill a v ht, hf, hd]⟩
  · intro n counted o' moved wrote retired link counting interval
    have hf : fillOk k u = completeCommit k f p mb u := by
      have hlu : u.lw k = .committing f p .fill mb := hl
      simp only [fillOk, hlu]
    have hadd : o.addCommit p.slot f.sourceNumber = o' := addCommit_eq _ _
    rw [hfill a v ht, hf]
    have hret : ∀ {q : Phase}, (Standing.bound b q).order? = some o' → ∀ outcome reason next,
        retire f.stream outcome reason next (u.committedTo k f mb b q) = moved (next o') (wrote (retired outcome reason)) :=
      fun hq outcome reason next => retire_committedTo hwu hq outcome reason next
    refine ⟨fun hs => ?_, fun hs => ?_⟩
    · rw [completeCommit_eq (s := u) (halting := false) hs, hadd]
      have hst : (u.committedTo k f mb b (.capturing o')).standing f.stream = .bound b (.capturing o') :=
        standing_committedTo _
      refine ⟨fun h => congrArg _ ?_, fun h => congrArg _ ?_, fun h1 h2 => ?_⟩
      · exact (afterCommit_completed (halting := false) hst (completed_single h)).trans (hret rfl _ _ _)
      · exact (afterCommit_completed (halting := false) hst (completed_count h)).trans (hret rfl _ _ _)
      · have hgo := afterCommit_goesOn hst (completed_none h1 h2)
        exact ⟨fun h => congrArg _ (hgo.trans (progress_due hwu h)),
          fun h => congrArg _ (hgo.trans (progress_notDue h))⟩
    · rw [completeCommit_eq (s := u) (halting := true) hs, hadd]
      have hst : (u.committedTo k f mb b (.halting o')).standing f.stream = .bound b (.halting o') :=
        standing_committedTo _
      refine ⟨fun h => congrArg _ ?_, fun h => congrArg _ ?_, fun h1 h2 => congrArg _ ?_⟩
      · exact (afterCommit_completed (halting := true) hst (completed_single h)).trans (hret rfl _ _ _)
      · exact (afterCommit_completed (halting := true) hst (completed_count h)).trans (hret rfl _ _ _)
      · exact (afterCommit_cut hst (completed_none h1 h2)).trans (hret rfl _ _ _)

end Sys2Proof.Machine

/-! PROOFS. The Report Writer's answers and publications (R36, R137, R139 to R142, R145 to R147, R180). -/

namespace Sys2Proof.Machine

section
variable {s : State}

/-! ### Status writes -/

theorem halfEnded_awaited {job : Job} {x : Addr} {n : Nat} (h : s.walker.inHand = some ⟨job, .awaitWrites x (n + 1)⟩) :
    halfEnded s = s.setInHand (some ⟨job, .awaitWrites x n⟩) := by
  simp only [halfEnded, h]
  exact setStage_inHand h _

theorem halfEnded_other (h : ∀ job x n, s.walker.inHand ≠ some ⟨job, .awaitWrites x (n + 1)⟩) : halfEnded s = s := by
  unfold halfEnded
  split
  · next job x n hj => exact absurd hj (h job x n)
  all_goals rfl

theorem initialSummary_made (hi : s.rw.initial = .pending 0 false) (hl : s.rw.laneUnanswered = 0) :
    initialSummary s = makeSummary 0 .running { s with rw := { s.rw with initial := .pending 0 true } } :=
  if_pos ⟨hi, hl⟩

theorem initialSummary_waits (h : s.rw.initial ≠ .pending 0 false ∨ s.rw.laneUnanswered ≠ 0) : initialSummary s = s :=
  if_neg fun hc => h.elim (fun h => h hc.1) fun h => h hc.2

theorem streamStatusOk_initial (hw : s.working) {n : Nat} {made : Bool} (hi : s.rw.initial = .pending n made) :
    streamStatusOk s = initialSummary { s with rw := { s.rw with initial := .pending (n - 1) made } } := by
  simp only [streamStatusOk, hw, if_true, hi]

theorem streamStatusOk_publication (hw : s.working) (hi : s.rw.initial = .complete) {batch : List (StreamId × Option Addr)}
    {n : Nat} {closing : Bool} (hp : s.rw.publication = some ⟨batch, .status n, closing⟩) : streamStatusOk s
      = if n ≤ 1 then makeSummary (s.rw.reportNumber + 1) (summaryState s)
          { s with rw := { s.rw with publication := some ⟨batch, .summary, closing⟩ } }
        else { s with rw := { s.rw with publication := some ⟨batch, .status (n - 1), closing⟩ } } := by
  simp only [streamStatusOk, hw, if_true, hi, hp]

theorem laneStatusOk_eq (hw : s.working) : laneStatusOk s
    = initialSummary { s with rw := { s.rw with laneUnanswered := s.rw.laneUnanswered - 1 } } := if_pos hw

end

/-- Settles O47: each status write's answer, and the Summary write that follows the last. -/
theorem statusWritesDone : Obligations.StatusWritesDone := by
  unfold Obligations.StatusWritesDone
  intro s t hans hw u summary deviceState
  have hwu : u.working := hw
  refine ⟨fun st d a h ht => ?_, fun a r ht => ?_, fun a r ht => ?_⟩
  · have hx : exec .deviceHalfWriteDone s = .next (halfEnded u) := by
      subst ht
      exact live_answers hans rfl
    rw [hx]
    exact ⟨fun job x n hj => congrArg _ (halfEnded_awaited (s := u) hj), fun hj => congrArg _ (halfEnded_other (s := u) hj)⟩
  · have hx : exec .streamStatusWriteDone s = .next (streamStatusOk u) := by
      subst ht
      exact live_answers hans rfl
    rw [hx]
    refine ⟨fun batch n closing hi hp => ?_, fun n hi => ?_⟩
    · rw [streamStatusOk_publication (s := u) hwu hi hp]
      exact ⟨fun h => congrArg _ (if_neg (by omega)), fun h => congrArg _ (if_pos h.le)⟩
    · rw [streamStatusOk_initial (s := u) hwu hi]
      refine ⟨?_, fun h => congrArg _ (initialSummary_waits ?_)⟩
      · rintro ⟨rfl, hl⟩
        exact congrArg _ (initialSummary_made rfl hl)
      · refine h.imp (fun h => ?_) And.right
        simp only [ne_eq, InitialPublication.pending.injEq, and_true]
        omega
  · have hx : exec .laneStatusWriteDone s = .next (laneStatusOk u) := by
      subst ht
      exact live_answers hans rfl
    rw [hx, laneStatusOk_eq (s := u) hwu]
    refine ⟨fun ⟨hi, h1⟩ => congrArg _ ?_, fun h => congrArg _ (initialSummary_waits ?_)⟩
    · have h0 : u.rw.laneUnanswered - 1 = 0 := Nat.sub_eq_zero_of_le h1.le
      rw [h0]
      exact initialSummary_made (s := { u with rw := { u.rw with laneUnanswered := 0 } }) hi rfl
    · exact h.imp id fun h => Nat.sub_ne_zero_of_lt h

end Sys2Proof.Machine

/-! PROOFS. Publications begin, and the drain of QUIESCING (R137, R139 to R142, R147, R180). -/

namespace Sys2Proof.Machine

section
variable {s : State} {st : StreamId}

theorem retirementWaiting_iff : retirementWaiting st s = true ↔
    ∃ k d, s.lw k = .dropping d ∧ d.retirement ≠ none ∧ d.stream = st := by
  simp only [retirementWaiting, allLanes, List.any_eq_true, List.mem_finRange, true_and]
  refine exists_congr fun k => ?_
  cases s.lw k with
  | dropping d => simp [Option.isSome_iff_ne_none]
  | _ => simp

/-- R139: what holds a stream's record back. -/
theorem readyStream_iff : readyStream s st = true ↔ (∀ x ∈ s.rw.queue, x.deviceHalfStream? ≠ some st)
    ∧ (∀ e ∈ s.port.table, e.txn.deviceHalfStream? ≠ some st)
    ∧ ∀ k d, s.lw k = .dropping d → d.retirement ≠ none → d.stream ≠ st := by
  have hret : (!retirementWaiting st s) = true ↔ ∀ k d, s.lw k = .dropping d → d.retirement ≠ none → d.stream ≠ st := by
    rw [Bool.not_eq_true', ← Bool.not_eq_true, retirementWaiting_iff]
    push Not
    rfl
  have hany : ∀ {α : Type} (l : List α) (f : α → Option StreamId),
      (!l.any fun x => f x == some st) = true ↔ ∀ x ∈ l, f x ≠ some st := fun l f => by simp
  rw [readyStream, Bool.and_eq_true, Bool.and_eq_true, hret, hany, hany]
  tauto

theorem recordedLink_iff {a : Addr} : recordedLink s st = some a ↔ ∃ b ready,
    s.standing st = .bound b (.fetching (.link a ready)) ∨ s.standing st = .bound b (.halted (.link a ready)) := by
  unfold recordedLink
  cases s.standing st with
  | idle => simp [Standing.resume?]
  | bound b p =>
    cases p with
    | fetching r => cases r <;> simp [Standing.resume?]
    | halted r => cases r <;> simp [Standing.resume?]
    | _ => simp [Standing.resume?]

end

/-- Settles O48: readiness, the recorded links, and the batch taken. -/
theorem publicationTakesTheReadyStreams : Obligations.PublicationTakesTheReadyStreams := by
  unfold Obligations.PublicationTakesTheReadyStreams
  rintro s batch ha rfl
  have hx : exec .publicationBegin s = .next (beginPublication s) := live_awake _ ha
  rw [hx]
  refine ⟨fun st => readyStream_iff, fun st a => recordedLink_iff, fun hw hp hi hb => ⟨unpend (readyBatch s) s.rw.pendingSet,
    congrArg _ (if_pos ⟨hw, hp, hi, hb⟩), fun st => ?_⟩, fun h => congrArg _ (if_neg ?_)⟩
  · have hm : readyBatch s = allStreams.filter fun st => s.isPending st && readyStream s st := rfl
    rw [getElem_unpend, ← hm]
    by_cases hst : st ∈ readyBatch s <;> simp [hst, State.isPending]
  · rintro ⟨hw, hp, hi, hb⟩
    rcases h with h | h | h | h
    · exact h hw
    · exact h hp
    · exact h hi
    · exact hb h

/-! ### The drain -/

theorem writersIdle_iff {s : State} : writersIdle s = true ↔ ∀ k, s.lw k = .idle := by simp [writersIdle, allLanes]

theorem pendingEmpty_iff {s : State} : pendingEmpty s = true ↔ ∀ st, s.isPending st = false := by
  simp [pendingEmpty, allStreams]

/-- Settles O50: each step of the drain is its condition and its effect. -/
theorem drainOfQuiescing : Obligations.DrainOfQuiescing := by
  unfold Obligations.DrainOfQuiescing
  intro s ha idle published
  have hq : exec .quiescePoint s = .next (quiescePoint s) := live_awake _ ha
  have hr : exec .drainLaneRefresh s = .next (drainRefresh s) := live_awake _ ha
  have hc : exec .closingPublication s = .next (closingPublication s) := live_awake _ ha
  rw [hq, hr, hc]
  refine ⟨fun hd hn hi => congrArg _ (if_pos ⟨hd, hn, writersIdle_iff.mpr hi.1, hi.2⟩), fun h => congrArg _ (if_neg ?_),
    fun hd hn hp => congrArg _ ?_, fun h => congrArg _ (if_neg ?_),
    fun hd hn hl hp => congrArg _ (if_pos ⟨hd, hn, hl, hp⟩), fun h => congrArg _ (if_neg ?_)⟩
  · rintro ⟨hd, hn, hw, hj⟩
    rcases h with h | h | h
    · exact h hd
    · exact h hn
    · exact h ⟨writersIdle_iff.mp hw, hj⟩
  · obtain ⟨hpend, hpub, hi, hl⟩ := hp
    exact if_pos ⟨hd, hn, pendingEmpty_iff.mpr hpend, hpub, hi, hl⟩
  · rintro ⟨hd, hn, hpend, hpub, hi, hl⟩
    rcases h with h | h | h
    · exact h hd
    · exact h hn
    · exact h ⟨pendingEmpty_iff.mp hpend, hpub, hi, hl⟩
  · rintro ⟨hd, hn, hl, hpub⟩
    rcases h with h | h | h | h
    · exact h hd
    · exact h hn
    · exact h hl
    · exact h hpub

end Sys2Proof.Machine

/-! PROOFS. A publication completes (R35, R46, R142, R146, R147). -/

namespace Sys2Proof.Machine

/-- The LINK jobs added when the streams of a batch are told that their records are published. -/
structure JobsAsked (batch : List (StreamId × Option Addr)) (s : State) (more : List Job) : Prop where
  onlyRunning : s.dc.device ≠ .running → more = []
  nodup : (more.map Job.stream).Nodup
  inOrder : (more.map Job.stream).Sublist (batch.map Prod.fst)
  each : ∀ j ∈ more, j.kind = .link ∧ (∀ x ∈ s.walker.queue, x.stream ≠ j.stream)
    ∧ (∀ x, s.walker.inHand = some x → x.job.stream ≠ j.stream)
    ∧ ∃ b a ready, (j.stream, some a) ∈ batch ∧ s.standing j.stream = .bound b (.fetching (.link a ready))

/-- What telling a batch makes of one stream. -/
def StreamTold (batch : List (StreamId × Option Addr)) (s t : State) (st : StreamId) : Prop :=
  (∃ b a ready, (st, some a) ∈ batch ∧ s.standing st = .bound b (.fetching (.link a ready))
      ∧ t.standing st = .bound b (.fetching (.link a true))
      ∧ (s.dc.device = .running → (∀ x, s.walker.inHand = some x → x.job.stream ≠ st) →
        ∃ j ∈ t.walker.queue, j.stream = st))
  ∨ ((∀ b a ready, (st, some a) ∈ batch → s.standing st ≠ .bound b (.fetching (.link a ready)))
      ∧ t.standing st = s.standing st)

/-- The streams of a batch are told that their records are published. -/
structure Told (batch : List (StreamId × Option Addr)) (s t : State) : Prop where
  only : t = { s with streams := t.streams, walker := { s.walker with queue := t.walker.queue } }
  jobs : ∃ more, t.walker.queue = s.walker.queue ++ more ∧ JobsAsked batch s more
  streams : ∀ st, t.ctx st = { s.ctx st with standing := t.standing st } ∧ StreamTold batch s t st

section
variable {s t u : State} {e : StreamId × Option Addr} {batch : List (StreamId × Option Addr)}

theorem jobsAsked_nil (s : State) : JobsAsked batch s [] :=
  ⟨fun _ => rfl, List.nodup_nil, List.nil_sublist _, (fun _ h => nomatch h)⟩

theorem Told.unchanged (h : ∀ st b a ready, (st, some a) ∈ batch → s.standing st ≠ .bound b (.fetching (.link a ready))) :
    Told batch s s :=
  ⟨rfl, ⟨[], (List.append_nil _).symm, jobsAsked_nil s⟩, fun st => ⟨rfl, .inr ⟨h st, rfl⟩⟩⟩

/-- A stream that holds a link step after the telling held one of the same order before it. -/
theorem StreamTold.held {st : StreamId} (h : StreamTold batch s t st) {b : Binding} {a : Addr} {ready : Bool}
    (ht : t.standing st = .bound b (.fetching (.link a ready))) :
    ∃ ready', s.standing st = .bound b (.fetching (.link a ready')) := by
  rcases h with ⟨b', a', r, _, hs, hst, _⟩ | ⟨_, hst⟩
  · rw [hst] at ht
    injection ht with hb hp
    injection hp with hp
    injection hp with ha
    exact ⟨r, by rw [← hb, ← ha]; exact hs⟩
  · exact ⟨ready, hst ▸ ht⟩

theorem JobsAsked.append {more more' : List Job} (h : Told [e] s t) (hq : t.walker.queue = s.walker.queue ++ more)
    (hm : JobsAsked [e] s more) (hm' : JobsAsked batch t more') : JobsAsked (e :: batch) s (more ++ more') := by
  have hdev : t.dc = s.dc := by rw [h.only]
  have hhand : t.walker.inHand = s.walker.inHand := by rw [h.only]
  refine ⟨fun hd => ?_, ?_, ?_, fun j hj => ?_⟩
  · rw [hm.onlyRunning hd, hm'.onlyRunning (hdev ▸ hd)]
    rfl
  · rw [List.map_append]
    refine List.Nodup.append hm.nodup hm'.nodup fun st h1 h2 => ?_
    obtain ⟨j, hj, rfl⟩ := List.mem_map.mp h1
    obtain ⟨j', hj', he⟩ := List.mem_map.mp h2
    exact (hm'.each j' hj').2.1 j (by rw [hq]; exact List.mem_append_right _ hj) he.symm
  · rw [List.map_append]
    exact hm.inOrder.append hm'.inOrder
  · rcases List.mem_append.mp hj with hj | hj
    · obtain ⟨hk, hn, hi, b, a, r, hmem, hs⟩ := hm.each j hj
      exact ⟨hk, hn, hi, b, a, r, List.mem_cons.mpr (.inl (List.mem_singleton.mp hmem)), hs⟩
    · obtain ⟨hk, hn, hi, b, a, r, hmem, hs⟩ := hm'.each j hj
      obtain ⟨r', hs'⟩ := (h.streams j.stream).2.held hs
      exact ⟨hk, fun x hx => hn x (by rw [hq]; exact List.mem_append_left _ hx), hhand ▸ hi, b, a, r',
        List.mem_cons_of_mem _ hmem, hs'⟩

theorem StreamTold.trans {st : StreamId} (hdev : t.dc = s.dc) (hhand : t.walker.inHand = s.walker.inHand)
    (hq : ∀ j ∈ t.walker.queue, j ∈ u.walker.queue) (h : StreamTold [e] s t st) (h' : StreamTold batch t u st) :
    StreamTold (e :: batch) s u st := by
  rcases h' with ⟨b, a, r, hmem, ht, hu, hjob⟩ | ⟨hnone, hu⟩
  · obtain ⟨r', hs⟩ := h.held ht
    exact .inl ⟨b, a, r', List.mem_cons_of_mem _ hmem, hs, hu, by rw [← hdev, ← hhand]; exact hjob⟩
  · rcases h with ⟨b, a, r, hmem, hs, ht, hjob⟩ | ⟨hnone', ht⟩
    · refine .inl ⟨b, a, r, List.mem_cons.mpr (.inl (List.mem_singleton.mp hmem)), hs, hu.trans ht, fun hd hi => ?_⟩
      obtain ⟨j, hj, hst⟩ := hjob hd hi
      exact ⟨j, hq j hj, hst⟩
    · refine .inr ⟨fun b a r hmem => ?_, hu.trans ht⟩
      rcases List.mem_cons.mp hmem with hmem | hmem
      · exact hnone' b a r (List.mem_singleton.mpr hmem)
      · rw [← ht]; exact hnone b a r hmem

theorem Told.trans (h : Told [e] s t) (h' : Told batch t u) : Told (e :: batch) s u := by
  obtain ⟨more, hq, hm⟩ := h.jobs
  obtain ⟨more', hq', hm'⟩ := h'.jobs
  have hdev : t.dc = s.dc := by rw [h.only]
  have hhand : t.walker.inHand = s.walker.inHand := by rw [h.only]
  refine ⟨?_, ⟨more ++ more', by rw [hq', hq, List.append_assoc], .append h hq hm hm'⟩, fun st => ⟨?_, ?_⟩⟩
  · rw [h'.only, h.only]
  · rw [(h'.streams st).1, (h.streams st).1]
  · exact .trans hdev hhand (fun j hj => by rw [hq']; exact List.mem_append_left _ hj) (h.streams st).2 (h'.streams st).2

theorem ctx_with_standing {x : StreamId} {y : Standing} (h : t.ctx x = { s.ctx x with standing := y }) :
    t.ctx x = { s.ctx x with standing := t.standing x } := by
  rw [State.standing, h]

/-- The stream's link step becomes ready, and jobs are asked for. -/
theorem told_ready {st : StreamId} {b : Binding} {a : Addr} {ready : Bool} {more : List Job}
    (hs : s.standing st = .bound b (.fetching (.link a ready))) (hm : JobsAsked [(st, some a)] s more)
    (hj : s.dc.device = .running → (∀ x, s.walker.inHand = some x → x.job.stream ≠ st) →
      ∃ j ∈ s.walker.queue ++ more, j.stream = st) :
    Told [(st, some a)] s { s.setStanding st (.bound b (.fetching (.link a true))) with
      walker := { s.walker with queue := s.walker.queue ++ more } } := by
  refine ⟨rfl, ⟨more, rfl, hm⟩, fun x => ?_⟩
  by_cases hx : x = st
  · subst hx
    have hst : (s.setStanding x (.bound b (.fetching (.link a true)))).standing x = .bound b (.fetching (.link a true)) :=
      standing_setStanding ..
    exact ⟨ctx_with_standing (ctx_setCtx ..), .inl ⟨b, a, ready, List.mem_singleton_self _, hs, hst, hj⟩⟩
  · have hctx : (s.setStanding st (.bound b (.fetching (.link a true)))).ctx x = s.ctx x := ctx_setCtx_ne s hx _
    have hst : (s.setStanding st (.bound b (.fetching (.link a true)))).standing x = s.standing x :=
      congrArg Context.standing hctx
    exact ⟨ctx_with_standing (s := s) (y := s.standing x) hctx, .inr ⟨fun b' a' r hmem =>
      absurd (congrArg Prod.fst (List.mem_singleton.mp hmem)) hx, hst⟩⟩

/-- One stream told. -/
theorem told_notifyPublished (e : StreamId × Option Addr) (s : State) : Told [e] s (notifyPublished e s) := by
  obtain ⟨st, link⟩ := e
  by_cases hm : ∃ b a ready, link = some a ∧ s.standing st = .bound b (.fetching (.link a ready))
  · obtain ⟨b, a, ready, rfl, hs⟩ := hm
    have hn : notifyPublished (st, some a) s = if jobInHandOf st s = true then s.setStanding st (.bound b (.fetching (.link a true)))
        else askJob st .link (s.setStanding st (.bound b (.fetching (.link a true)))) := by
      simp only [notifyPublished, hs, if_true]
      rfl
    have same : Told [(st, some a)] s { s.setStanding st (.bound b (.fetching (.link a true))) with
        walker := { s.walker with queue := s.walker.queue ++ [] } } ↔
        Told [(st, some a)] s (s.setStanding st (.bound b (.fetching (.link a true)))) := by
      rw [List.append_nil]
      rfl
    rw [hn]
    by_cases hh : jobInHandOf st s = true
    · rw [if_pos hh]
      refine same.mp (told_ready hs (jobsAsked_nil s) fun _ hi => absurd (jobInHandOf_eq_false_iff.mpr hi) ?_)
      rw [hh]; exact nofun
    · have hfree := jobInHandOf_eq_false_iff.mp (Bool.not_eq_true _ ▸ hh)
      have hask : askJob st .link (s.setStanding st (.bound b (.fetching (.link a true))))
          = { s.setStanding st (.bound b (.fetching (.link a true))) with walker := { s.walker with
            queue := if s.dc.device = .running ∧ ∀ j ∈ s.walker.queue, j.stream ≠ st then s.walker.queue ++ [⟨st, .link⟩]
              else s.walker.queue } } := askJob_eq ..
      rw [if_neg hh, hask]
      by_cases hq : s.dc.device = .running ∧ ∀ j ∈ s.walker.queue, j.stream ≠ st
      · rw [if_pos hq]
        refine told_ready hs ⟨fun h => absurd hq.1 h, List.nodup_singleton _, .refl _, fun j hj => ?_⟩
          fun _ _ => ⟨_, List.mem_append_right _ (List.mem_singleton_self _), rfl⟩
        obtain rfl := List.mem_singleton.mp hj
        exact ⟨rfl, hq.2, hfree, b, a, ready, List.mem_singleton_self _, hs⟩
      · rw [if_neg hq]
        refine same.mp (told_ready hs (jobsAsked_nil s) fun hd _ => ?_)
        push Not at hq
        obtain ⟨j, hj, hst⟩ := hq hd
        exact ⟨j, List.mem_append_left _ hj, hst⟩
  · have hn : notifyPublished (st, link) s = s := by
      unfold notifyPublished
      split
      · next a b a' r hl hs => exact if_neg fun he => hm ⟨b, a, r, hl, by rw [← he]; exact hs⟩
      · rfl
    rw [hn]
    refine .unchanged fun x b a ready hmem hs => hm ?_
    obtain ⟨rfl, rfl⟩ := Prod.mk.inj (List.mem_singleton.mp hmem)
    exact ⟨b, a, ready, rfl, hs⟩

theorem told_foldl (batch : List (StreamId × Option Addr)) (s : State) :
    Told batch s (batch.foldl (fun s e => notifyPublished e s) s) := by
  induction batch generalizing s with
  | nil => exact .unchanged (fun _ _ _ _ h => nomatch h)
  | cons e batch ih => exact (told_notifyPublished e s).trans (ih _)

end

/-- Settles O49: the telling of the batch, and the state around it. -/
theorem summaryCompletesThePublication : Obligations.SummaryCompletesThePublication := by
  unfold Obligations.SummaryCompletesThePublication
  intro s t address r ht hans hw
  subst ht
  have hwu : (s.ended (.summaryWrite address r)).working := hw
  have hx : exec .summaryWriteDone s = .next (summaryOk (s.ended (.summaryWrite address r))) := live_answers hans rfl
  rw [hx]
  refine ⟨fun n made hi => congrArg _ ?_, fun p hi hp => ?_⟩
  · have hiu : (s.ended (.summaryWrite address r)).rw.initial = .pending n made := hi
    simp only [summaryOk, hwu, if_true, hiu]
    rfl
  · have hiu : (s.ended (.summaryWrite address r)).rw.initial = .complete := hi
    have hpu : (s.ended (.summaryWrite address r)).rw.publication = some p := hp
    have hok : summaryOk (s.ended (.summaryWrite address r)) = completePublication p (s.ended (.summaryWrite address r)) := by
      simp only [summaryOk, hwu, if_true, hiu, hpu]
    have htold : Told p.batch _ ((s.ended (.summaryWrite address r)).published p) := told_foldl p.batch _
    obtain ⟨honly, ⟨more, hq, hmore⟩, hst⟩ := htold
    have hfin : completePublication p (s.ended (.summaryWrite address r))
        = { (s.ended (.summaryWrite address r)).published p with
          rw := { s.rw with
            reportNumber := s.rw.reportNumber + 1, publication := none
            drain := if p.closing then .notBegun else s.rw.drain }
          dc := { s.dc with device := if p.closing then .quiet else s.dc.device } } := by
      rw [completePublication_eq, honly]
      cases p.closing <;> rfl
    refine ⟨_, congrArg _ (hok.trans hfin), ?_, ⟨more, hq, hmore.onlyRunning, hmore.nodup, hmore.inOrder, hmore.each⟩, hst⟩
    rw [honly]
    rfl

end Sys2Proof.Machine

/-! PROOFS. Port faults of a frame's transactions (R58, R60, R62, R65, R71, R90, R106, R109, R152, R154, R158, R159). -/

namespace Sys2Proof.Machine

section
variable {s : State} {k : Lane} {d : DroppedFrame} {b : Binding} {halting : Bool} {o : CurrentOrder} {code : FaultCode}

theorem stopStaging_eq (k : Lane) (s : State) : stopStaging k s = s.setLr k (s.lr k).unstaged := by
  unfold stopStaging Receiver.unstaged
  cases (s.lr k).frame with
  | none => rfl
  | some x =>
    cases x with
    | header bytes crc => rfl
    | body a => rfl
    | crc a first => rfl

/-- The state once one more answer to a dropped frame whose stream is FAULTED or forgotten has come: with the last the
writer is IDLE and a FAULT retirement that waits is handed over. -/
def State.dropAwaits (s : State) (k : Lane) (outstanding : Nat) (d : DroppedFrame) : State :=
  if outstanding = 1 then (match d.retirement with
    | none => s.setLw k .idle
    | some r => { s.setLw k .idle with rw := { s.rw with
        pendingSet := s.rw.pendingSet.set d.frame.stream.val true
        queue := s.rw.queue ++ [.deviceHalfWrite d.frame.stream d.disowned r.1 r.2] } })
  else s.setLw k (.dropping { d with outstanding := outstanding - 1 })

theorem setDrop_over (hw : s.working) (hd : d.disowned = true ∨ ∃ b c, s.standing d.stream = .bound b (.faulted c))
    {n : Nat} (hn : n ≠ 0) : setDrop k { d with outstanding := n - 1 } s = s.dropAwaits k n d := by
  rw [setDrop, State.dropAwaits]
  by_cases h1 : n = 1
  · rw [if_pos h1, if_pos (show n - 1 = 0 by omega), finishDrop_over (d := { d with outstanding := n - 1 }) hw hd]
    cases d.retirement <;> rfl
  · rw [if_neg h1, if_neg (show ¬ n - 1 = 0 by omega)]

theorem frameTxnFault_dropping (hw : s.working) (hl : s.lw k = .dropping d) :
    frameTxnFault k code s = faultDropped k d code s := by
  simp only [frameTxnFault, hw, if_true, hl]

section
variable {f : FlightFrame} {p : Placement}

theorem frameTxnFault_searching {slot read : Nat} {issued : Bool} (hw : s.working)
    (hl : s.lw k = .searching f slot read issued) : frameTxnFault k code s = faultFrame k f none code false 0 s := by
  simp only [frameTxnFault, hw, if_true, hl]

theorem frameTxnFault_bound (hw : s.working) (hl : s.lw k = .placing f p ∨ s.lw k = .closing f p) :
    frameTxnFault k code s = faultFrame k f (some p.slot) code false (p.outstanding - 1) s := by
  rcases hl with hl | hl <;> simp only [frameTxnFault, hw, if_true, hl]

theorem frameTxnFault_committing {stage : CommitStage} {mb : Half} (hw : s.working)
    (hl : s.lw k = .committing f p stage mb) :
    frameTxnFault k code s = faultFrame k f (some p.slot) code false 0 s := by
  simp only [frameTxnFault, hw, if_true, hl]

end

theorem faultDropped_disowned (hw : s.working) (h0 : d.outstanding ≠ 0) (hd : d.disowned = true) :
    faultDropped k d code s = s.dropAwaits k d.outstanding d :=
  (if_pos hd).trans (setDrop_over hw (.inl hd) h0)

theorem faultDropped_faulted (hw : s.working) (h0 : d.outstanding ≠ 0) (hd : d.disowned = false) {x : FaultCode}
    (hs : s.standing d.stream = .bound b (.faulted x)) : faultDropped k d code s
      = ({ s with rw := { s.rw with pendingSet := s.rw.pendingSet.set d.stream.val true } } : State).dropAwaits k
        d.outstanding d := by
  have hf : (s.standing d.stream).fault?.isSome = true := by rw [hs]; rfl
  have hset : faultDropped k d code s = setDrop k { d with outstanding := d.outstanding - 1 } (pend d.stream s) :=
    (if_neg (by rw [hd]; exact nofun)).trans (if_pos hf)
  rw [hset, pend_of_working d.stream hw]
  exact setDrop_over (s := { s with rw := { s.rw with pendingSet := s.rw.pendingSet.set d.stream.val true } }) hw
    (.inr ⟨b, x, hs⟩) h0

theorem faultDropped_current (hd : d.disowned = false) (hs : s.standing d.stream = .bound b (.current halting o)) :
    faultDropped k d code s = faultFrame k d.frame d.slot code (!d.countLost) (d.outstanding - 1) s := by
  have hf : (s.standing d.stream).fault?.isSome = false := by rw [hs]; cases halting <;> rfl
  simp only [faultDropped, hd, Bool.false_eq_true, if_false, hf]

end

/-- Settles O51: a fault of a dropped frame's transaction, and of the frame in flight's. -/
theorem frameFaultsRetireTheOrder : Obligations.FrameFaultsRetireTheOrder := by
  unfold Obligations.FrameFaultsRetireTheOrder
  refine ⟨stopStaging_eq, ?_, ?_⟩
  · intro s k t d c code reason hans hw hl h0 hrow st pended awaits
    have hwu : (s.ended t).working := hw
    have hlu : (s.ended t).lw k = .dropping d := hl
    have hx : exec c s = .next (faultDropped k d code (s.ended t)) ∧ code.reason = reason := by
      have hrun := exec_faultRow hans
      rcases hrow with ⟨⟨a, rfl⟩, rfl, rfl, rfl⟩ | ⟨⟨a, bytes, rfl⟩, rfl, rfl, rfl⟩ | ⟨⟨a, m, rfl⟩ | ⟨a, v, rfl⟩, rfl, rfl, rfl⟩
      all_goals exact ⟨hrun.trans (congrArg _ (frameTxnFault_dropping hwu hlu)), rfl⟩
    obtain ⟨hrun, rfl⟩ := hx
    have hawaits : ∀ x, awaits x d = x.dropAwaits k d.outstanding d := fun x => rfl
    rw [hrun]
    refine ⟨fun hd => congrArg _ ?_, fun hd b x hs => congrArg _ ?_, fun hd b halting o hs => congrArg _ ?_⟩
    · rw [faultDropped_disowned hwu h0 hd, hawaits]
    · rw [faultDropped_faulted (s := s.ended t) hwu h0 hd hs, hawaits]
      rfl
    · have hhalf : (if (!d.countLost) = true then o else o.oneLost).half .fault code.reason s.now = ⟨.fault, code.reason,
          if d.countLost then o.oneLost.counters else o.counters, o.acceptTime, s.now⟩ := by
        cases d.countLost <;> rfl
      rw [faultDropped_current (s := s.ended t) hd hs, faultFrame_current (s := s.ended t) code hwu hs]
      by_cases h1 : d.outstanding = 1
      · simp only [awaits, pended, h1, if_true, hd, ← hhalf, Vector.set_set]
        rfl
      · have h2 : ¬ d.outstanding - 1 = 0 := by omega
        simp only [awaits, h1, h2, if_false, hd, ← hhalf]
        rfl
  · intro s k t f b o hans hw hs st half pended faulted atOnce
    obtain ⟨halting, hcur⟩ : ∃ halting, s.standing f.stream = .bound b (.current halting o) :=
      hs.elim (fun h => ⟨false, h⟩) fun h => ⟨true, h⟩
    have hwu : (s.ended t).working := hw
    have hrun := exec_faultRow hans
    have hat : ∀ slot code, frameTxnFault k code (s.ended t) = faultFrame k f slot code false 0 (s.ended t) →
        frameTxnFault k code (s.ended t) = atOnce code code.reason := fun slot code h =>
      h.trans ((faultFrame_current (s := s.ended t) code hwu hcur).trans (if_pos rfl))
    refine ⟨fun a slot read ht hl => ?_, fun a bytes p ht hl => ⟨fun h1 => ?_, fun h1 => ?_⟩, fun p stage mb hl ht => ?_⟩
    · subst ht
      exact hrun.trans (congrArg _ (hat none .readFault (frameTxnFault_searching (s := s.ended _) hwu hl)))
    · subst ht
      have hb := frameTxnFault_bound (s := s.ended (.dataWrite k a bytes)) (code := .writeFault) hwu hl
      rw [h1] at hb
      exact hrun.trans (congrArg _ (hat (some p.slot) .writeFault hb))
    · subst ht
      refine hrun.trans (congrArg _ ((frameTxnFault_bound (s := s.ended _) hwu hl).trans ?_))
      exact (faultFrame_current (s := s.ended _) .writeFault hwu hcur).trans (if_neg (Nat.sub_ne_zero_of_lt h1))
    · have hc := frameTxnFault_committing (s := s.ended t) (code := .writeFault) hwu hl
      rcases ht with ⟨a, m, rfl⟩ | ⟨a, v, rfl⟩
      · exact hrun.trans (congrArg _ (hat (some p.slot) .writeFault hc))
      · exact hrun.trans (congrArg _ (hat (some p.slot) .writeFault hc))

end Sys2Proof.Machine

/-! PROOFS. Port faults of device-half writes and order reads (R36, R38, R47, R152, R153, R155, R156, R158). -/

namespace Sys2Proof.Machine

section
variable {s : State} {k : Lane} {st : StreamId} {b : Binding} {p : Phase}

/-- A frame held for a stream faulted by another transaction is abandoned: the writer awaits what it has outstanding. -/
theorem abandonFrame_held (hw : s.working) (hs : ∃ b c, s.standing st = .bound b (.faulted c))
    {f : FlightFrame} {slot : Option Nat} {n : Nat} (hf : f.stream = st) (hst : (s.lw k).stream? = some st)
    (hd : (s.lw k).dropped (s.lw k).awaited = some ⟨f, slot, n, false, none, false⟩) :
    abandonFrame k st s
      = (stopStaging k s).setLw k (if n = 0 then .idle else .dropping ⟨f, slot, n, false, none, false⟩) := by
  subst hf
  simp only [abandonFrame, hst, if_true, hd, startDrop, setDrop]
  split
  · exact finishDrop_over (s := stopStaging k s) hw (.inr hs)
  · rfl

theorem abandonFrame_other (h : (s.lw k).stream? ≠ some st) : abandonFrame k st s = s := if_neg h

theorem endAwait_other (h : ∀ job x n, s.walker.inHand ≠ some ⟨job, .awaitWrites x n⟩) : endAwait st s = s := by
  unfold endAwait
  split
  · next job x n hj => exact absurd hj (h job x n)
  all_goals rfl

theorem endAwait_awaiting {job : Job} {x : Addr} {n : Nat} (h : s.walker.inHand = some ⟨job, .awaitWrites x n⟩) :
    endAwait st s = s.setInHand (if job.stream = st then none else some ⟨job, .awaitWrites x n⟩) := by
  simp only [endAwait, h]
  split
  · rfl
  · rw [← h]; rfl

theorem halfFaulted_disowned : halfFaulted st true s = halfEnded s := if_neg fun h => nomatch h.2

theorem halfFaulted_faulted (hw : (halfEnded s).working) {c : FaultCode}
    (hs : (halfEnded s).standing st = .bound b (.faulted c)) : halfFaulted st false s = pend st (halfEnded s) := by
  simp only [halfFaulted, hw, and_self, if_true, hs]

/-- The first fault of a stream by its device-half write (R155, R156). -/
theorem halfFaulted_first (hw : (halfEnded s).working) (hs : (halfEnded s).standing st = .bound b p)
    (hp : ∀ c, p ≠ .faulted c) : halfFaulted st false s
      = endAwait st (abandonFrame b.lane st ((halfEnded s).movedTo st b (.faulted .writeFault))) := by
  have hf := streamFault_eq_movedTo hw hs hp .writeFault
  cases p with
  | faulted c => exact absurd rfl (hp c)
  | _ => simp only [halfFaulted, hw, and_self, if_true, hs, hf]

/-- The ways a Lane Writer holds a frame of a stream, with the transactions it has outstanding. -/
theorem dropped_of_held {w : Writer} {f : FlightFrame} {slot : Option Nat} {n : Nat}
    (h : (∃ i read issued, w = .searching f i read issued ∧ slot = none ∧ n = if issued then 1 else 0)
      ∨ (∃ q, (w = .placing f q ∨ w = .closing f q) ∧ slot = some q.slot ∧ n = q.outstanding)
      ∨ (∃ q stage mb, w = .committing f q stage mb ∧ slot = some q.slot ∧ n = 1)
      ∨ (∃ d, w = .dropping d ∧ d.disowned = false ∧ f = d.frame ∧ slot = d.slot ∧ n = d.outstanding)) :
    w.stream? = some f.stream ∧ w.dropped w.awaited = some ⟨f, slot, n, false, none, false⟩ := by
  rcases h with ⟨i, read, issued, rfl, rfl, rfl⟩ | ⟨q, rfl | rfl, rfl, rfl⟩ | ⟨q, stage, mb, rfl, rfl, rfl⟩
    | ⟨d, rfl, hd, rfl, rfl, rfl⟩
  · exact ⟨rfl, rfl⟩
  · exact ⟨rfl, rfl⟩
  · exact ⟨rfl, rfl⟩
  · exact ⟨rfl, rfl⟩
  · refine ⟨?_, ?_⟩
    · simp only [Writer.stream?, hd, Bool.false_eq_true, if_false]
      rfl
    · simp only [Writer.dropped, Writer.awaited, plainDrop, hd]

end

/-- Settles O52: a device half's fault by its stream's state and its lane's writer, and an order read's. -/
theorem deviceHalfAndOrderReadFaults : Obligations.DeviceHalfAndOrderReadFaults := by
  unfold Obligations.DeviceHalfAndOrderReadFaults
  intro s t hans hw u pended
  have hwu : u.working := hw
  have hrun := exec_faultRow hans
  have hidle : (∀ job x n, s.walker.inHand ≠ some ⟨job, .awaitWrites x n⟩) → halfEnded u = u := fun hn =>
    halfEnded_other fun job x n => hn job x (n + 1)
  refine ⟨fun st a h b p ht hs => ?_, fun st a h ht hn => ?_, fun address job a b ht hj hs => ?_⟩
  · have hx : exec .deviceHalfWriteFault s = .next (halfFaulted st false u) := by
      subst ht
      exact hrun
    have hsu : u.standing st = .bound b p := hs
    rw [hx]
    refine ⟨fun c hp hn => congrArg _ ?_, fun hp hl => ⟨fun hn => congrArg _ ?_, fun job x n hj => congrArg _ ?_⟩,
      fun hp hn f slot n hf hheld => congrArg _ ?_⟩
    · subst hp
      rw [halfFaulted_faulted (by rw [hidle hn]; exact hwu) (by rw [hidle hn]; exact hsu), hidle hn]
      exact pend_of_working st hwu
    · rw [halfFaulted_first (by rw [hidle hn]; exact hwu) (by rw [hidle hn]; exact hsu) hp, hidle hn,
        abandonFrame_other (by exact hl), endAwait_other (by exact hn)]
      rfl
    · have hhe : halfEnded u = u.setInHand (some ⟨job, .awaitWrites x n⟩) := halfEnded_awaited (s := u) hj
      rw [halfFaulted_first (by rw [hhe]; exact hwu) (by rw [hhe]; exact hsu) hp, hhe,
        abandonFrame_other (by exact hl), endAwait_awaiting (job := job) (x := x) (n := n) rfl]
      rfl
    · subst hf
      obtain ⟨hst, hd⟩ := dropped_of_held hheld
      rw [halfFaulted_first (by rw [hidle hn]; exact hwu) (by rw [hidle hn]; exact hsu) hp, hidle hn,
        abandonFrame_held (s := u.movedTo f.stream b (.faulted .writeFault)) hwu ⟨b, .writeFault, standing_setStanding ..⟩ rfl
        hst hd, endAwait_other (by exact hn)]
      rfl
  · subst ht
    exact hrun.trans (congrArg _ (halfFaulted_disowned.trans (hidle hn)))
  · subst ht
    refine hrun.trans (congrArg _ ?_)
    have hr : orderReader u = some (job.stream, a) := by
      have hju : u.walker.inHand = some ⟨job, .orderRead a true⟩ := hj
      simp only [orderReader, hju]
    have hsu : u.standing job.stream = .bound b (.fetching (.fetch a)) := hs
    have hf : (holdsFetch job.stream a u).isSome = true := by rw [holdsFetch_of_fetch hsu]; rfl
    have hread : orderReadFaulted u = endJob (streamFault job.stream .readFault u) := by
      simp only [orderReadFaulted, hr, hwu, hf, and_self, if_true]
    exact hread.trans (by rw [streamFault_eq_movedTo hwu hsu fun _ => nofun]; rfl)

end Sys2Proof.Machine

/-! PROOFS. Board faults (R33, R34, R76, R119, R144, R148, R161, R163, R165). -/

namespace Sys2Proof.Machine

section
variable {s : State}

theorem boardFault_working (hw : s.working) (bit : BitVec 4) : boardFault bit s = enterBroken (raiseCause bit s) := if_pos hw

theorem boardFault_other (hw : ¬ s.working) (bit : BitVec 4) : boardFault bit s = s := if_neg hw

theorem enterBroken_lr (k : Lane) : (enterBroken s).lr k = (s.lr k).givenUp := by
  have h : (enterBroken s).lr k = (abandonLanes s).lr k := rfl
  rw [h, lr_abandonLanes, abandon_eq_givenUp]

/-- The writer of each lane after the entry to BROKEN (R76). -/
theorem enterBroken_lw (k : Lane) : (s.lw k = .idle ∨ laneOutstanding k s = 0 → (enterBroken s).lw k = .idle)
    ∧ (s.lw k ≠ .idle → laneOutstanding k s ≠ 0 → ∃ d, (enterBroken s).lw k = .dropping d
      ∧ d.outstanding = laneOutstanding k s ∧ d.countLost = false ∧ d.retirement = none) := by
  have h : (enterBroken s).lw k = (s.lw k).abandon (laneOutstanding k s) := lw_abandonLanes s k
  rw [h]
  refine ⟨fun h0 => ?_, fun hi hn => abandon_dropping hi hn⟩
  rcases h0 with h0 | h0
  · rw [h0, abandon_idle]
  · rw [h0, abandon_zero]

end

/-- Settles O53: the entry to BROKEN, block by block. -/
theorem boardFaultsBreakTheDevice : Obligations.BoardFaultsBreakTheDevice := by
  unfold Obligations.BoardFaultsBreakTheDevice
  intro s t hans hkind run u
  have hrow := exec_faultRow hans
  by_cases hread : t.direction = .read
  · obtain ⟨a, job, rfl, hj⟩ : ∃ a job, t = .anchorRead a ∧ s.walker.inHand = some ⟨job, .anchorRead true⟩ := by
      rcases hkind with ⟨a, r, rfl⟩ | ⟨a, r, rfl⟩ | ⟨a, r, rfl⟩ | h
      · exact nomatch hread
      · exact nomatch hread
      · exact nomatch hread
      · exact h
    refine ⟨fun hw => ?_, fun _ h => nomatch h⟩
    have hju : u.walker.inHand = some ⟨job, .anchorRead true⟩ := hj
    have hr : anchorReader u = some job.stream := by simp only [anchorReader, hju]
    have hx : run = .next (enterBroken (raiseCause causeBoardRead (endJob u))) := by
      refine hrow.trans (congrArg _ ?_)
      have hf : portFault (.anchorRead a) u = boardFault causeBoardRead (endJob u) := by
        simp only [portFault, anchorReadFaulted, hr]
      rw [hf, boardFault_working (s := endJob u) hw]
    exact ⟨_, hx, rfl, rfl, rfl, rfl, rfl, (fun _ h => nomatch h), fun _ => rfl, rfl, rfl, rfl, fun k => enterBroken_lr k,
      fun k => enterBroken_lw (s := raiseCause causeBoardRead (endJob u)) k⟩
  · have hx : run = .next (boardFault causeBoardWrite u) := by
      refine (if_neg hread).trans ?_
      rcases hkind with ⟨a, r, rfl⟩ | ⟨a, r, rfl⟩ | ⟨a, r, rfl⟩ | ⟨a, job, rfl, _⟩
      · exact hrow
      · exact hrow
      · exact hrow
      · exact absurd rfl hread
    rw [hx]
    refine ⟨fun hw => ⟨_, congrArg _ (boardFault_working (s := u) hw _), ?_, rfl, rfl, rfl, rfl, fun j _ hj => ?_,
      fun h => absurd h hread, rfl, rfl, rfl, fun k => enterBroken_lr k,
      fun k => enterBroken_lw (s := raiseCause causeBoardWrite u) k⟩,
      fun hw _ => congrArg _ (boardFault_other (s := u) hw _)⟩
    · rw [if_neg hread]
      rfl
    · have hb : (enterBroken (raiseCause causeBoardWrite u)).walker.inHand
          = s.walker.inHand.filter fun j => j.stage.readIssued := rfl
      rw [hb, hj]
      rfl

end Sys2Proof.Machine

/-! PROOFS. What the laws of R90 and R91 ask of a step. `Framed` says them of every stream at once, and of a part
that works or holds no frame. `Tallied` says of two states that the second is so if the first is, and how far an
order's held and lost counts have risen between them; it is transitive, so an operation tallies because the
operations it is built from do. -/

namespace Sys2Proof.Machine

/-! ### Frames and phases -/

/-- The current order of a phase (R5). -/
def Phase.order? : Phase → Option CurrentOrder
  | .armed o _ => some o
  | .capturing o => some o
  | .halting o => some o
  | .fetching _ | .halted _ | .parked _ | .faulted _ => none

theorem order?_bound (b : Binding) (p : Phase) : (Standing.bound b p).order? = p.order? := by cases p <;> rfl

/-- A phase of a stream whose frame in flight is, or is not, still to be counted: only a CAPTURING or HALTING stream
has one, and the order's counters are balanced with it (R90, R91). -/
structure Phase.Fits (p : Phase) (uncounted : Bool) : Prop where
  current : uncounted = true → ∃ o, p = .capturing o ∨ p = .halting o
  balanced : ∀ o, p.order? = some o → o.counters.balanced uncounted

/-- A phase without an order fits a stream that has no frame to be counted. -/
theorem Phase.Fits.of_orderless {p : Phase} (h : p.order? = none) : p.Fits false where
  current h := nomatch h
  balanced o ho := by rw [h] at ho; cases ho

/-- A phase other than CAPTURING and HALTING has no frame to be counted. -/
theorem Phase.Fits.counted {p : Phase} {u : Bool} (h : p.Fits u) (hp : ∀ o, p ≠ .capturing o ∧ p ≠ .halting o) :
    u = false := by
  cases u with
  | false => rfl
  | true =>
    obtain ⟨o, ho | ho⟩ := h.current rfl
    · exact absurd ho (hp o).1
    · exact absurd ho (hp o).2

/-- A stream's standing fits the frames the Lane Writers hold: only the writer of the lane it is bound to holds one
of it, and its phase fits that. -/
def Standing.Fits (st : StreamId) (lw : Lane → Writer) : Standing → Prop
  | .idle => ∀ k, (lw k).stream? ≠ some st
  | .bound b p => (∀ k, (lw k).stream? = some st → k = b.lane) ∧ p.Fits ((lw b.lane).uncounted st)

theorem stream?_of_uncounted {w : Writer} {st : StreamId} (h : w.uncounted st = true) : w.stream? = some st := by
  cases w with
  | idle => cases h
  | dropping d =>
    simp only [Writer.uncounted, Bool.and_eq_true, Bool.not_eq_true', beq_iff_eq] at h
    simp [Writer.stream?, h]
  | _ => exact congrArg some (eq_of_beq h)

theorem uncounted_of_stream? {w : Writer} {st : StreamId} (h : w.stream? ≠ some st) : w.uncounted st = false :=
  Bool.eq_false_iff.mpr fun hu => h (stream?_of_uncounted hu)

/-- Every stream's standing fits the frames in flight, and a part that does not work holds none. -/
structure Framed (s : State) : Prop where
  active : s.working ∨ ∀ k, s.lw k = .idle
  fits : ∀ st, (s.standing st).Fits st s.lw

theorem Framed.working {s : State} (h : Framed s) {k : Lane} (hi : s.lw k ≠ .idle) : s.working :=
  h.active.resolve_right fun h => hi (h k)

/-- The stream of a frame in flight is bound to its lane. -/
theorem Standing.Fits.bound {st : StreamId} {lw : Lane → Writer} {x : Standing} (h : x.Fits st lw) {k : Lane}
    (hk : (lw k).stream? = some st) : ∃ b p, x = .bound b p ∧ b.lane = k ∧ p.Fits ((lw k).uncounted st) := by
  cases x with
  | idle => exact absurd hk (h k)
  | bound b p =>
    obtain rfl := h.1 k hk
    exact ⟨b, p, rfl, rfl, h.2⟩

/-- The law of R90 and R91 is that of every stream. -/
theorem frameLaw_iff (s : State) : FrameLaw s ↔ (s.counts → ∀ st, (s.standing st).Fits st s.lw) := by
  refine imp_congr_right fun _ => ⟨fun ⟨hh, hb⟩ st => ?_, fun h => ⟨fun k st hk => ?_, fun st b p o hs ho => ?_⟩⟩
  · cases hs : s.standing st with
    | idle =>
      intro k hk
      obtain ⟨b, p, _, hp, _⟩ := hh k st hk
      rw [hs] at hp
      cases hp
    | bound b p =>
      refine ⟨fun k hk => ?_, fun hu => ?_, fun o ho => hb st b p o hs ?_⟩
      · obtain ⟨b', p', hl, hp, _⟩ := hh k st hk
        rw [hs] at hp
        cases hp
        exact hl.symm
      · obtain ⟨b', p', hl, hp, hc⟩ := hh b.lane st (stream?_of_uncounted hu)
        rw [hs] at hp
        cases hp
        exact hc hu
      · rw [State.order?, hs, order?_bound, ho]
  · obtain ⟨b, p, hs, hb, hf⟩ := (h st).bound hk
    exact ⟨b, p, hb, hs, hf.current⟩
  · have hf := h st
    rw [hs] at hf
    rw [State.order?, hs, order?_bound] at ho
    exact hf.2.balanced o ho

/-! ### What the counts held and lost do -/

/-- Held has risen by `i` and lost by `j`, no less and at most `n`. -/
def Counters.RoseTo (n : Nat) (c c' : Counters) : Prop :=
  ∃ i j, i ≤ j ∧ j ≤ n ∧ c'.held = c.held + BitVec.ofNat 32 i ∧ c'.lost = c.lost + BitVec.ofNat 32 j

/-- A current order's counts have risen by at most `n` from those of the order there was, or from 0. -/
def RoseAt (n : Nat) (x y : Option CurrentOrder) : Prop :=
  ∀ o', y = some o' → Counters.zero.RoseTo n o'.counters ∨ ∃ o, x = some o ∧ o.counters.RoseTo n o'.counters

theorem Counters.RoseTo.refl (n : Nat) (c : Counters) : c.RoseTo n c :=
  ⟨0, 0, le_rfl, Nat.zero_le n, (BitVec.add_zero _).symm, (BitVec.add_zero _).symm⟩

theorem Counters.RoseTo.of_same {n : Nat} {c c' : Counters} (hh : c'.held = c.held) (hl : c'.lost = c.lost) :
    c.RoseTo n c' := by
  obtain ⟨i, j, hij, hj, h, l⟩ := refl n c
  exact ⟨i, j, hij, hj, hh.trans h, hl.trans l⟩

theorem Counters.RoseTo.trans {n m : Nat} {a b c : Counters} (h : a.RoseTo n b) (h' : b.RoseTo m c) :
    a.RoseTo (n + m) c := by
  obtain ⟨i, j, hij, hj, hh, hl⟩ := h
  obtain ⟨i', j', hij', hj', hh', hl'⟩ := h'
  exact ⟨i + i', j + j', by omega, by omega, by rw [hh', hh, BitVec.add_assoc, ← BitVec.ofNat_add],
    by rw [hl', hl, BitVec.add_assoc, ← BitVec.ofNat_add]⟩

theorem RoseAt.refl (n : Nat) (x : Option CurrentOrder) : RoseAt n x x := fun o ho => .inr ⟨o, ho, .refl n _⟩

theorem RoseAt.of_eq {n : Nat} {x y : Option CurrentOrder} (h : y = x) : RoseAt n x y := h ▸ refl n x

theorem RoseAt.none (n : Nat) (x : Option CurrentOrder) : RoseAt n x none := fun _ h => nomatch h

theorem RoseAt.trans {n m : Nat} {x y z : Option CurrentOrder} (h : RoseAt n x y) (h' : RoseAt m y z) :
    RoseAt (n + m) x z := fun o'' hz => by
  obtain hf | ⟨o', hy, hr'⟩ := h' o'' hz
  · obtain ⟨i, j, hij, hj, hc⟩ := hf
    exact .inl ⟨i, j, hij, by omega, hc⟩
  · obtain hf | ⟨o, hx, hr⟩ := h o' hy
    · exact .inl (hf.trans hr')
    · exact .inr ⟨o, hx, hr.trans hr'⟩

theorem RoseAt.mono {n m : Nat} {x y : Option CurrentOrder} (h : RoseAt n x y) (hm : n ≤ m) : RoseAt m x y := by
  have up : ∀ {c c' : Counters}, c.RoseTo n c' → c.RoseTo m c' := fun ⟨i, j, hij, hj, hc⟩ =>
    ⟨i, j, hij, hj.trans hm, hc⟩
  exact fun o' ho' => (h o' ho').imp up fun ⟨o, ho, hr⟩ => ⟨o, ho, up hr⟩

/-- With no lost count at its last value, held stays within lost. -/
theorem Counters.RoseTo.within {c c' : Counters} (h : c.RoseTo 1 c') (hc : c.held.toNat ≤ c.lost.toNat)
    (hw : c.lost.toNat < 4294967295) : c'.held.toNat ≤ c'.lost.toNat := by
  obtain ⟨i, j, hij, hj, hh, hl⟩ := h
  rw [hh, hl, BitVec.toNat_add, BitVec.toNat_add, BitVec.toNat_ofNat, BitVec.toNat_ofNat]
  omega

/-! ### The relation -/

/-- What an operation that may count frames keeps: every stream fits the frames in flight, the counts of a current
order rise by at most `n`, and the part does not come out of RESETTING or BROKEN. -/
structure Tallied (n : Nat) (s t : State) : Prop where
  framed : Framed s → Framed t
  rose : ∀ st, RoseAt n (s.order? st) (t.order? st)
  counts : t.counts → s.counts

theorem Tallied.refl (n : Nat) (s : State) : Tallied n s s := ⟨id, fun _ => .refl n _, id⟩

theorem Tallied.mono {n m : Nat} {s t : State} (h : Tallied n s t) (hm : n ≤ m) : Tallied m s t :=
  ⟨h.framed, fun st => (h.rose st).mono hm, h.counts⟩

theorem Tallied.comp {n m : Nat} {s t u : State} (h : Tallied n s t) (h' : Tallied m t u) : Tallied (n + m) s u :=
  ⟨h'.framed ∘ h.framed, fun st => (h.rose st).trans (h'.rose st), h.counts ∘ h'.counts⟩

/-- An operation, and then one that counts no loss. -/
theorem Tallied.trans {n : Nat} {s t u : State} (h : Tallied n s t) (h' : Tallied 0 t u) : Tallied n s u := h.comp h'

/-- An operation that counts no loss, and then another. -/
theorem Tallied.after {n : Nat} {s t u : State} (h : Tallied 0 s t) (h' : Tallied n t u) : Tallied n s u :=
  Nat.zero_add n ▸ h.comp h'

theorem Tallied.weaken {s t : State} (h : Tallied 0 s t) (n : Nat) : Tallied n s t := h.after (refl n t)

/-- A loop whose every pass counts no loss. -/
theorem Tallied.foldl {α : Type} {f : State → α → State} (hf : ∀ s x, Tallied 0 s (f s x)) (l : List α)
    (s : State) : Tallied 0 s (l.foldl f s) := by
  induction l generalizing s with
  | nil => exact refl 0 s
  | cons x l ih => exact (hf s x).trans (ih (f s x))

/-- What is neither a stream's context nor a Lane Writer can be replaced, the device state but for working. -/
theorem Tallied.of_same {n : Nat} {s t : State} (hd : s.working → t.working := by exact id)
    (hn : t.counts → s.counts := by exact id) (hs : t.streams = s.streams := by rfl)
    (hl : t.writers = s.writers := by rfl) : Tallied n s t where
  framed h :=
    { active := h.active.imp hd fun h k => by rw [State.lw, hl]; exact h k
      fits := fun st => by
        have hlw : t.lw = s.lw := by funext k; rw [State.lw, hl]; rfl
        rw [State.standing, State.ctx, hs, hlw]
        exact h.fits st }
  rose st := .of_eq (by rw [State.order?, State.standing, State.ctx, hs]; rfl)
  counts := hn

/-! ### Changes to one stream and one lane -/

/-- A Lane Writer holds a frame of the stream or of none. -/
def Writer.OnlyOf (st : StreamId) (w : Writer) : Prop := ∀ x, w.stream? = some x → x = st

theorem Writer.onlyOf_idle {st : StreamId} : Writer.idle.OnlyOf st := fun _ h => nomatch h

theorem Writer.onlyOf_of_stream? {st : StreamId} {w : Writer} (h : w.stream? = some st) : w.OnlyOf st := fun _ hx =>
  Option.some.inj (hx.symm.trans h)

/-- A standing fits still where the writers hold no frame of the stream that they did not hold, and as many to be
counted. -/
theorem Standing.Fits.of_writers {st : StreamId} {lw lw' : Lane → Writer} {x : Standing} (h : x.Fits st lw)
    (hs : ∀ k, (lw' k).stream? = some st → (lw k).stream? = some st)
    (hu : ∀ k, (lw' k).uncounted st = (lw k).uncounted st) : x.Fits st lw' := by
  cases x with
  | idle => exact fun k hk => h k (hs k hk)
  | bound b p => exact ⟨fun k hk => h.1 k (hs k hk), by rw [hu]; exact h.2⟩

/-- A change to a stream bound to lane `k`, and to that lane's writer, which holds and held no frame but of it: it is
enough that the stream's new phase fits. -/
theorem Tallied.of_lane {n : Nat} {s x : State} {st : StreamId} {k : Lane} {w : Writer} (hd : x.dc = s.dc)
    (hx : ∀ y ≠ st, x.standing y = s.standing y) (hl : ∀ j, x.lw j = s.lw j)
    (hi : s.working ∨ s.lw k ≠ .idle) (hs : (s.lw k).OnlyOf st) (hw : w.OnlyOf st)
    (hk : (s.standing st).Fits st s.lw → ∃ b q, s.standing st = .bound b q ∧ b.lane = k)
    (hf : ∀ b q, s.standing st = .bound b q → q.Fits ((s.lw k).uncounted st) →
      ∃ p, x.standing st = .bound b p ∧ p.Fits (w.uncounted st))
    (hr : RoseAt n (s.order? st) (x.order? st)) : Tallied n s (x.setLw k w) where
  framed h := by
    have hlk : (x.setLw k w).lw k = w := lw_setLw x k w
    have hlj : ∀ j ≠ k, (x.setLw k w).lw j = s.lw j := fun j hj => (lw_setLw_ne x hj w).trans (hl j)
    have hworks : (x.setLw k w).working ↔ s.working := by rw [State.working, setLw_dc, hd]
    refine ⟨.inl (hworks.mpr (hi.elim id h.working)), fun y => ?_⟩
    show (x.standing y).Fits y (x.setLw k w).lw
    by_cases hy : y = st
    · subst hy
      have hfits := h.fits y
      obtain ⟨b, q, hq, rfl⟩ := hk hfits
      rw [hq] at hfits
      obtain ⟨p, hp, hpf⟩ := hf b q hq hfits.2
      rw [hp]
      refine ⟨fun j hj => ?_, by rwa [hlk]⟩
      by_contra hjk
      rw [hlj j hjk] at hj
      exact hjk (hfits.1 j hj)
    · rw [hx y hy]
      have other : ∀ v : Writer, v.OnlyOf st → v.stream? ≠ some y := fun v hv he => hy (hv y he)
      refine (h.fits y).of_writers (fun j hj => ?_) fun j => ?_
      · by_cases hjk : j = k
        · subst hjk
          rw [hlk] at hj
          exact absurd hj (other w hw)
        · rwa [hlj j hjk] at hj
      · by_cases hjk : j = k
        · subst hjk
          rw [hlk, uncounted_of_stream? (other w hw), uncounted_of_stream? (other _ hs)]
        · rw [hlj j hjk]
  rose y := by
    by_cases hy : y = st
    · subst hy; exact hr
    · exact .of_eq (congrArg Standing.order? (hx y hy))
  counts := by rw [State.counts, setLw_dc, hd]; exact id

end Sys2Proof.Machine

/-! PROOFS. The updates of one stream's context and of one Lane Writer, and the stream operations built from them,
tally. -/

namespace Sys2Proof.Machine

/-! ### Primitive updates -/

section
variable (s : State) {n : Nat}

/-- A writer can take another state that holds a frame of the same stream, or none, and is to be counted alike. -/
theorem setLw_tallied {k : Lane} {w : Writer} (hi : s.lw k ≠ .idle ∨ w = .idle)
    (hs : ∀ st, w.stream? = some st → (s.lw k).stream? = some st)
    (hu : ∀ st, w.uncounted st = (s.lw k).uncounted st) : Tallied n s (s.setLw k w) where
  framed h :=
    { active := by
        obtain hi | hi := hi
        · exact .inl (h.working hi)
        · refine h.active.imp_right fun h j => ?_
          rw [lw_setLw_cases, hi, h j, ite_self]
      fits := fun st => by
        refine (h.fits st).of_writers (fun j hj => ?_) fun j => ?_
        · rw [lw_setLw_cases] at hj
          split at hj
          · next hjk => subst hjk; exact hs st hj
          · exact hj
        · rw [lw_setLw_cases]
          split
          · next hjk => subst hjk; exact hu st
          · rfl }
  rose _ := .refl n _
  counts := id

/-- A context whose standing fits as well can be put in place. -/
theorem setCtx_tallied {st : StreamId} {c : Context}
    (hf : (s.standing st).Fits st s.lw → c.standing.Fits st s.lw)
    (hr : RoseAt n (s.order? st) c.standing.order?) : Tallied n s (s.setCtx st c) where
  framed h :=
    { active := h.active
      fits := fun x => by
        by_cases hx : x = st
        · subst hx
          rw [State.standing, ctx_setCtx]
          exact hf (h.fits x)
        · rw [State.standing, ctx_setCtx_ne s hx]
          exact h.fits x }
  rose x := by
    by_cases hx : x = st
    · subst hx
      have : (s.setCtx x c).order? x = c.standing.order? := congrArg (·.standing.order?) (ctx_setCtx s x c)
      rwa [this]
    · exact .of_eq (congrArg (·.standing.order?) (ctx_setCtx_ne s hx c))
  counts := id

/-- A context that keeps its standing can be put in place. -/
theorem setCtx_tallied_same {st : StreamId} {c : Context} (h : c.standing = s.standing st) :
    Tallied n s (s.setCtx st c) := setCtx_tallied s (fun hf => h ▸ hf) (.of_eq (by rw [h]; rfl))

/-- A bound stream's standing can be replaced by one that fits as well. -/
theorem setStanding_tallied {st : StreamId} {b : Binding} {q p : Phase} (hs : s.standing st = .bound b q)
    (hf : q.Fits ((s.lw b.lane).uncounted st) → p.Fits ((s.lw b.lane).uncounted st))
    (hr : RoseAt n q.order? p.order?) : Tallied n s (s.setStanding st (.bound b p)) := by
  refine setCtx_tallied s (fun h => ?_) ?_
  · rw [hs] at h
    exact ⟨h.1, hf h.2⟩
  · rw [State.order?, hs, order?_bound]
    exact (order?_bound b p).symm ▸ hr

theorem pend_tallied (st : StreamId) : Tallied n s (pend st s) := by
  rw [pend_eq]; exact .of_same

theorem enqueue_tallied (t : Txn) : Tallied n s (enqueue t s) := .of_same

theorem askJob_tallied (st : StreamId) (kind : JobKind) : Tallied n s (askJob st kind s) := by
  rw [askJob_eq]; exact .of_same

theorem setLr_tallied (k : Lane) (r : Receiver) : Tallied n s (s.setLr k r) := .of_same

end

/-! ### Orders -/

theorem Phase.order?_mapOrder (f : CurrentOrder → CurrentOrder) (p : Phase) :
    (p.mapOrder f).order? = p.order?.map f := by cases p <;> rfl

theorem Phase.current_mapOrder (f : CurrentOrder → CurrentOrder) {p : Phase}
    (h : ∃ o, p = .capturing o ∨ p = .halting o) : ∃ o, p.mapOrder f = .capturing o ∨ p.mapOrder f = .halting o := by
  obtain ⟨o, rfl | rfl⟩ := h
  · exact ⟨f o, .inl rfl⟩
  · exact ⟨f o, .inr rfl⟩

/-- A phase fits with its order changed as the count of its frame in flight asks. -/
theorem Phase.Fits.mapOrder {f : CurrentOrder → CurrentOrder} {p : Phase} {u u' : Bool} (h : p.Fits u)
    (hu : u' = true → u = true)
    (hb : ∀ o : CurrentOrder, o.counters.balanced u → (f o).counters.balanced u') : (p.mapOrder f).Fits u' where
  current h' := Phase.current_mapOrder f (h.current (hu h'))
  balanced o' ho' := by
    rw [Phase.order?_mapOrder, Option.map_eq_some_iff] at ho'
    obtain ⟨o, ho, rfl⟩ := ho'
    exact hb o (h.balanced o ho)

theorem RoseAt.map {n : Nat} {f : CurrentOrder → CurrentOrder} (hf : ∀ o : CurrentOrder, o.counters.RoseTo n (f o).counters)
    (x : Option CurrentOrder) : RoseAt n x (x.map f) := fun o' ho' => by
  obtain ⟨o, ho, rfl⟩ := Option.map_eq_some_iff.mp ho'
  exact .inr ⟨o, ho, hf o⟩

theorem Standing.order?_mapOrder (f : CurrentOrder → CurrentOrder) (x : Standing) :
    (x.mapOrder f).order? = x.order?.map f := by
  cases x with
  | idle => rfl
  | bound b p => rw [Standing.mapOrder, order?_bound, order?_bound, Phase.order?_mapOrder]

section
variable (s : State) {n : Nat} {st : StreamId}

/-- A change to the current order that keeps its counters balanced. -/
theorem mapOrder_tallied {f : CurrentOrder → CurrentOrder}
    (hb : ∀ (o : CurrentOrder) u, o.counters.balanced u → (f o).counters.balanced u)
    (hr : ∀ o : CurrentOrder, o.counters.RoseTo n (f o).counters) : Tallied n s (mapOrder st f s) := by
  refine setCtx_tallied s (fun h => ?_) ?_
  · show ((s.standing st).mapOrder f).Fits st s.lw
    cases hs : s.standing st with
    | idle => rw [hs] at h; exact h
    | bound b p => rw [hs] at h; exact ⟨h.1, h.2.mapOrder id fun o => hb o _⟩
  · show RoseAt n _ ((s.standing st).mapOrder f).order?
    rw [Standing.order?_mapOrder]
    exact .map hr _

/-- A change to the current order that leaves the counters alone. -/
theorem mapOrder_tallied_same {f : CurrentOrder → CurrentOrder} (hf : ∀ o, (f o).counters = o.counters) :
    Tallied n s (mapOrder st f s) :=
  mapOrder_tallied s (fun o u h => by rwa [hf]) fun o => by rw [hf]; exact .refl n _

/-- The writer's frame is counted, as the order changes, and the writer holds it no longer as one to be counted. -/
theorem settle_tallied {c : Context} {k : Lane} {f : CurrentOrder → CurrentOrder} {w : Writer}
    (hc : c.standing = (s.standing st).mapOrder f) (hk : (s.lw k).stream? = some st)
    (hu : (s.lw k).uncounted st = true) (hw : w.OnlyOf st) (hu' : w.uncounted st = false)
    (hb : ∀ o : CurrentOrder, o.counters.balanced true → (f o).counters.balanced false)
    (hr : ∀ o : CurrentOrder, o.counters.RoseTo n (f o).counters) : Tallied n s ((s.setCtx st c).setLw k w) := by
  have hst : (s.setCtx st c).standing st = (s.standing st).mapOrder f := hc ▸ congrArg Context.standing (ctx_setCtx s st c)
  refine .of_lane (st := st) rfl (fun y hy => congrArg Context.standing (ctx_setCtx_ne s hy c)) (fun _ => rfl)
    (.inr fun h => by rw [h] at hk; cases hk) (Writer.onlyOf_of_stream? hk) hw (fun h => ?_) (fun b q hs h => ?_) ?_
  · obtain ⟨b, q, hs, hb, -⟩ := h.bound hk
    exact ⟨b, q, hs, hb⟩
  · rw [hu] at h
    rw [hst, hs, hu']
    exact ⟨q.mapOrder f, rfl, h.mapOrder nofun hb⟩
  · rw [State.order?, State.order?, hst, Standing.order?_mapOrder]
    exact .map hr _

/-- The frame's class is counted as the writer ceases to hold it to be counted. -/
theorem count_settle_tallied {k : Lane} {f : Counters → Counters} {w : Writer} (hk : (s.lw k).stream? = some st)
    (hu : (s.lw k).uncounted st = true) (hw : w.OnlyOf st) (hu' : w.uncounted st = false)
    (hb : ∀ c : Counters, c.balanced true → (f c).balanced false) (hr : ∀ c : Counters, c.RoseTo n (f c)) :
    Tallied n s ((count st f s).setLw k w) :=
  settle_tallied s rfl hk hu hw hu' (fun o => hb o.counters) fun o => hr o.counters

/-! ### Stream operations -/

/-- A bound stream can enter a phase that fits as well. -/
theorem enter_tallied {p : Phase}
    (hf : ∀ b q, s.standing st = .bound b q → q.Fits ((s.lw b.lane).uncounted st) →
      p.Fits ((s.lw b.lane).uncounted st))
    (hr : RoseAt n (s.order? st) p.order?) : Tallied n s (enter st p s) := by
  unfold enter
  split
  · exact .refl n s
  · next b q hs =>
    refine (setStanding_tallied s hs (hf b q hs) ?_).trans (pend_tallied _ st)
    rwa [State.order?, hs, order?_bound] at hr

/-- A stream with no frame to be counted, where its standing fits. -/
def State.Counted (s : State) (st : StreamId) : Prop :=
  ∀ b q, s.standing st = .bound b q → q.Fits ((s.lw b.lane).uncounted st) → (s.lw b.lane).uncounted st = false

/-- A stream outside CAPTURING and HALTING has no frame to be counted. -/
theorem State.Counted.of_phase {b : Binding} {q : Phase} (hs : s.standing st = .bound b q)
    (hq : ∀ o, q ≠ .capturing o ∧ q ≠ .halting o) : s.Counted st := fun b' q' hs' h => by
  rw [hs] at hs'
  cases hs'
  exact h.counted hq

/-- A stream keeps its standing, or leaves its order. -/
structure Withdraws (st : StreamId) (s t : State) : Prop where
  dc : t.dc = s.dc
  writers : t.writers = s.writers
  others : ∀ x ≠ st, t.standing x = s.standing x
  own : t.standing st = s.standing st
    ∨ ∃ b q p, s.standing st = .bound b q ∧ t.standing st = .bound b p ∧ p.order? = none

theorem Withdraws.refl : Withdraws st s s := ⟨rfl, rfl, fun _ _ => rfl, .inl rfl⟩

variable {s} in
theorem Withdraws.rose {t : State} (h : Withdraws st s t) (x : StreamId) : RoseAt n (s.order? x) (t.order? x) := by
  by_cases hx : x = st
  · subst hx
    obtain hs | ⟨b, q, p, -, hp, ho⟩ := h.own
    · exact .of_eq (congrArg Standing.order? hs)
    · have hn : t.order? x = none := (congrArg Standing.order? hp).trans ((order?_bound b p).trans ho)
      rw [hn]
      exact .none n _
  · exact .of_eq (congrArg Standing.order? (h.others x hx))

variable {s} in
/-- A stream with no frame to be counted can leave its order. -/
theorem Withdraws.tallied {t : State} (h : Withdraws st s t) (hc : s.Counted st) : Tallied n s t where
  framed hf :=
    { active := by
        have hw : t.working ↔ s.working := by rw [State.working, h.dc]
        have hl : ∀ k, t.lw k = s.lw k := fun k => by rw [State.lw, h.writers]; rfl
        simpa only [hw, hl] using hf.active
      fits := fun x => by
        have hl : t.lw = s.lw := by funext k; rw [State.lw, h.writers]; rfl
        rw [hl]
        have hfx := hf.fits x
        by_cases hx : x = st
        · subst hx
          obtain hs | ⟨b, q, p, hs, hp, ho⟩ := h.own
          · rwa [hs]
          · rw [hs] at hfx
            rw [hp]
            refine ⟨hfx.1, ?_⟩
            rw [hc b q hs hfx.2]
            exact .of_orderless ho
        · rwa [h.others x hx] }
  rose := h.rose
  counts := by rw [State.counts, h.dc]; exact id

variable {s} in
theorem Withdraws.enqueue {t : State} (h : Withdraws st s t) (x : Txn) : Withdraws st s (Machine.enqueue x t) :=
  ⟨h.dc, h.writers, h.others, h.own⟩

theorem enter_withdraws {p : Phase} (hp : p.order? = none) : Withdraws st s (enter st p s) := by
  unfold enter
  split
  · exact .refl s
  · next b q hs =>
    exact ⟨pend_dc .., pend_writers .., fun x hx => (pend_standing ..).trans (standing_setStanding_ne s hx _),
      .inr ⟨b, q, p, hs, (pend_standing ..).trans (standing_setStanding ..), hp⟩⟩

theorem retire_withdraws {outcome : OrderOutcome} {reason : Reason} {next : CurrentOrder → Phase}
    (hp : ∀ o, (next o).order? = none) : Withdraws st s (retire st outcome reason next s) := by
  unfold retire
  split
  · exact .refl s
  · exact (enter_withdraws s (hp _)).enqueue _

theorem streamFault_withdraws {code : FaultCode} : Withdraws st s (streamFault st code s) := by
  unfold streamFault
  split
  · exact .refl s
  · exact ⟨pend_dc .., pend_writers .., fun x _ => pend_standing .., .inl (pend_standing ..)⟩
  · next b q _ hs =>
    exact ⟨pend_dc .., pend_writers .., fun x hx => (pend_standing ..).trans (standing_setStanding_ne s hx _),
      .inr ⟨b, q, _, hs, (pend_standing ..).trans (standing_setStanding ..), rfl⟩⟩

theorem enter_orderless_tallied {p : Phase} (hc : s.Counted st) (hp : p.order? = none) :
    Tallied n s (enter st p s) := (enter_withdraws s hp).tallied hc

theorem retire_tallied {outcome : OrderOutcome} {reason : Reason} {next : CurrentOrder → Phase} (hc : s.Counted st)
    (hp : ∀ o, (next o).order? = none) : Tallied n s (retire st outcome reason next s) :=
  (retire_withdraws s hp).tallied hc

theorem streamFault_tallied {code : FaultCode} (hc : s.Counted st) : Tallied n s (streamFault st code s) :=
  (streamFault_withdraws s).tallied hc

end

end Sys2Proof.Machine

/-! PROOFS. What the Lane Writers do with their frames tallies: drops, losses, faults, frame ends and commits. -/

namespace Sys2Proof.Machine

/-! ### Classes of the counters -/

section
variable {c : Counters} {u : Bool}

theorem Counters.balanced_congr {c' : Counters} (hm : c'.met = c.met) (ht : c'.thinned = c.thinned)
    (hg : c'.gated = c.gated) (hl : c'.lost = c.lost) (hc : c'.committed = c.committed) (h : c.balanced u) :
    c'.balanced u := by
  rw [Counters.balanced, hm, ht, hg, hl, hc]; exact h

theorem Counters.addLost_balanced (h : c.balanced true) : c.addLost.balanced false := by
  simp only [Counters.balanced, Counters.addLost, if_true, Bool.false_eq_true, if_false] at h ⊢
  bv_omega

theorem Counters.addGated_balanced (h : c.balanced true) : c.addGated.balanced false := by
  simp only [Counters.balanced, Counters.addGated, if_true, Bool.false_eq_true, if_false] at h ⊢
  bv_omega

theorem Counters.addCommit_balanced (number : Half) (h : c.balanced true) : (c.addCommit number).balanced false := by
  simp only [Counters.balanced, Counters.addCommit, if_true, Bool.false_eq_true, if_false] at h ⊢
  bv_omega

theorem Counters.addHeld_balanced (h : c.balanced true) : c.addHeld.balanced false := addLost_balanced h

theorem Counters.addLost_rose (c : Counters) : c.RoseTo 1 c.addLost :=
  ⟨0, 1, by decide, le_rfl, (BitVec.add_zero _).symm, rfl⟩

theorem Counters.addHeld_rose (c : Counters) : c.RoseTo 1 c.addHeld := ⟨1, 1, le_rfl, le_rfl, rfl, rfl⟩

end

/-! ### Drops -/

section
variable (s : State) {n : Nat} {st : StreamId} {k : Lane}

theorem Writer.onlyOf_dropping {d : DroppedFrame} (h : d.stream = st) : (Writer.dropping d).OnlyOf st := fun x hx => by
  simp only [Writer.stream?] at hx
  split at hx
  · cases hx
  · exact (Option.some.inj hx).symm.trans h

theorem uncounted_dropping {d : DroppedFrame} (h : d.countLost = false) (st : StreamId) :
    (Writer.dropping d).uncounted st = false := by simp [Writer.uncounted, h]

/-- How many losses the end of a drop counts at most. -/
def DroppedFrame.losses (d : DroppedFrame) : Nat := if d.countLost then 1 else 0

theorem haltingEnd_tallied (hu : (s.lw k).uncounted st = false) : Tallied n s (haltingEnd k st s) := by
  unfold haltingEnd
  split
  case h_1 b o hs =>
    split
    · next hb =>
      subst hb
      refine retire_tallied s (fun b' q hs' _ => ?_) fun _ => rfl
      rw [hs] at hs'
      cases hs'
      exact hu
    · exact .refl n s
  all_goals exact .refl n s

/-- The writer goes idle as its drop ends, and a loss still to be counted is. -/
theorem dropEnds_tallied (d : DroppedFrame) :
    Tallied d.losses (s.setLw k (.dropping d))
      (if d.countLost && !d.disowned then count d.stream Counters.addLost (s.setLw k .idle) else s.setLw k .idle) := by
  have hk : (s.setLw k (.dropping d)).lw k = .dropping d := lw_setLw s k _
  have hi : (s.setLw k (.dropping d)).setLw k .idle = s.setLw k .idle := setLw_setLw s k _ _
  split
  · next h =>
    simp only [Bool.and_eq_true, Bool.not_eq_true'] at h
    have hn : d.losses = 1 := if_pos h.1
    have ht : count d.stream Counters.addLost (s.setLw k .idle)
        = (count d.stream Counters.addLost (s.setLw k (.dropping d))).setLw k .idle :=
      (congrArg (count d.stream Counters.addLost) hi.symm).trans rfl
    rw [hn, ht]
    exact count_settle_tallied _ (by simp [hk, Writer.stream?, h.2]) (by simp [hk, Writer.uncounted, h])
      Writer.onlyOf_idle rfl (fun _ => Counters.addLost_balanced) Counters.addLost_rose
  · next h =>
    rw [← hi]
    refine setLw_tallied _ (.inr rfl) (fun _ h => nomatch h) fun st => ?_
    rw [hk]
    simp [Writer.uncounted, h]

/-- The end of a drop tallies, seen from the DROPPING writer. -/
theorem finishDrop_tallied (d : DroppedFrame) : Tallied d.losses (s.setLw k (.dropping d)) (finishDrop k d s) := by
  by_cases hw : s.working
  · unfold finishDrop
    dsimp only
    rw [if_pos (show (s.setLw k .idle).working from hw)]
    have h1 := dropEnds_tallied (k := k) s d
    have hl : (if d.countLost && !d.disowned then count d.stream Counters.addLost (s.setLw k .idle)
        else s.setLw k .idle).lw k = .idle := by split <;> exact lw_setLw s k _
    generalize (if d.countLost && !d.disowned then count d.stream Counters.addLost (s.setLw k .idle)
        else s.setLw k .idle) = x at h1 hl ⊢
    have h2 : Tallied d.losses (s.setLw k (.dropping d)) (if d.disowned then x else haltingEnd k d.stream x) := by
      split
      · exact h1
      · exact h1.trans (haltingEnd_tallied x (by rw [hl]; rfl))
    split
    · exact h2
    · exact (h2.trans (enqueue_tallied _ _)).trans (pend_tallied _ _)
  · have ht : finishDrop k d s = (s.setLw k (.dropping d)).setLw k .idle :=
      (if_neg hw).trans (setLw_setLw s k _ _).symm
    rw [ht]
    exact ⟨fun h => absurd (h.working (k := k) (by rw [lw_setLw]; exact nofun)) hw, fun _ => .refl _ _, id⟩

theorem setDrop_tallied (d : DroppedFrame) : Tallied d.losses (s.setLw k (.dropping d)) (setDrop k d s) := by
  unfold setDrop
  split
  · exact finishDrop_tallied s d
  · exact .refl _ _

/-- A frame is dropped, seen from the writer that is DROPPING it. -/
theorem startDrop_tallied (d : DroppedFrame) : Tallied d.losses (s.setLw k (.dropping d)) (startDrop k d s) :=
  Tallied.after .of_same (setDrop_tallied (stopStaging k s) d)

theorem dropping_losses_le (d : DroppedFrame) : d.losses ≤ 1 := by
  unfold DroppedFrame.losses; split <;> decide

theorem setDrop_fewer_tallied {d : DroppedFrame} {m : Nat} (hl : s.lw k = .dropping d) :
    Tallied 1 s (setDrop k { d with outstanding := m } s) := by
  have h1 : Tallied 0 s (s.setLw k (.dropping { d with outstanding := m })) :=
    setLw_tallied s (.inl (by rw [hl]; exact nofun)) (fun st h => by rw [hl]; exact h) fun st => by rw [hl]; rfl
  exact h1.after ((setDrop_tallied s _).mono (dropping_losses_le _))

theorem dropAnswered_tallied : Tallied 1 s (dropAnswered k s) := by
  unfold dropAnswered
  split
  · next hl => exact setDrop_fewer_tallied s hl
  all_goals exact .refl _ s

/-! ### Losses and faults -/

/-- A bound frame is lost, and counted when the drop ends. -/
theorem lose_tallied {f : FlightFrame} {slot : Option Nat} {m : Nat} (hs : (s.lw k).stream? = some f.stream)
    (hu : ∀ st, (s.lw k).uncounted st = (f.stream == st)) :
    Tallied 1 s (startDrop k { plainDrop f slot m with countLost := true } s) := by
  have h1 : Tallied 0 s (s.setLw k (.dropping { plainDrop f slot m with countLost := true })) :=
    setLw_tallied s (.inl fun h => by rw [h] at hs; cases hs) (fun st h => hs.trans h) fun st => (hu st).symm
  exact h1.after ((startDrop_tallied s _).mono (dropping_losses_le _))

/-- A frame in search is counted lost, or held and lost, at once. -/
theorem loseSearched_tallied {f : FlightFrame} {i r m : Nat} {issued : Bool} {count' : Counters → Counters}
    (hl : s.lw k = .searching f i r issued) (hb : ∀ c : Counters, c.balanced true → (count' c).balanced false)
    (hr : ∀ c : Counters, c.RoseTo 1 (count' c)) :
    Tallied 1 s (startDrop k (plainDrop f none m) (count f.stream count' s)) := by
  have h1 : Tallied 1 s ((count f.stream count' s).setLw k (.dropping (plainDrop f none m))) :=
    count_settle_tallied s (by rw [hl]; rfl) (by simp [hl, Writer.uncounted]) (Writer.onlyOf_dropping rfl)
      (uncounted_dropping rfl _) hb hr
  exact h1.trans (startDrop_tallied _ (plainDrop f none m))

theorem reportLoss_tallied (why : LossReason) : Tallied 1 s (reportLoss k why s) := by
  unfold reportLoss
  split
  case h_1 hl => exact loseSearched_tallied s hl (fun _ => Counters.addLost_balanced) Counters.addLost_rose
  case h_2 hl | h_3 hl => exact lose_tallied s (by rw [hl]; rfl) fun st => by rw [hl]; rfl
  all_goals exact .refl _ s

@[simp] theorem streamFault_lw (code : FaultCode) (j : Lane) : (streamFault st code s).lw j = s.lw j := by
  rw [State.lw, (streamFault_withdraws s).writers]; rfl

theorem standing_streamFault {b : Binding} {p : Phase} (hs : s.standing st = .bound b p) (code : FaultCode) :
    ∃ c, (streamFault st code s).standing st = .bound b (.faulted c) := by
  cases p with
  | faulted c => exact ⟨c, by simp [streamFault, hs]⟩
  | _ => exact ⟨code, by simp [streamFault, hs]⟩

theorem order?_streamFault (code : FaultCode) : (streamFault st code s).order? st = none := by
  cases hs : s.standing st with
  | idle => simp [streamFault, hs, State.order?, Standing.order?]
  | bound b p =>
    obtain ⟨c, hc⟩ := standing_streamFault s hs code
    rw [State.order?, hc]
    rfl

/-- The stream of the writer's frame is faulted, so that no order is left to count it in, and the frame dropped. -/
theorem faultDrop_tallied {d : DroppedFrame} {code : FaultCode} (hk : (s.lw k).stream? = some st)
    (hd : d.stream = st) (hc : d.countLost = false) :
    Tallied n s ((streamFault st code s).setLw k (.dropping d)) := by
  refine .of_lane (st := st) (streamFault_dc s st code) (streamFault_withdraws s).others (streamFault_lw s code)
    (.inr fun h => by rw [h] at hk; cases hk) (Writer.onlyOf_of_stream? hk) (Writer.onlyOf_dropping hd) (fun h => ?_)
    (fun b q hs _ => ?_) (order?_streamFault s code ▸ .none n _)
  · obtain ⟨b, q, hs, hb, -⟩ := h.bound hk
    exact ⟨b, q, hs, hb⟩
  · obtain ⟨c, hcs⟩ := standing_streamFault s hs code
    exact ⟨_, hcs, by rw [uncounted_dropping hc]; exact .of_orderless rfl⟩

end

end Sys2Proof.Machine

/-! PROOFS. Port faults of a frame, frame ends, commits and the page search tally. -/

namespace Sys2Proof.Machine

section
variable (s : State) {n : Nat} {st : StreamId} {k : Lane}

/-! ### Port faults -/

/-- The first fault of a bound stream. -/
theorem streamFault_first {b : Binding} {p : Phase} (hs : s.standing st = .bound b p) (hp : ∀ c, p ≠ .faulted c)
    (code : FaultCode) : streamFault st code s = pend st (s.setStanding st (.bound b (.faulted code))) := by
  cases p with
  | faulted c => exact absurd rfl (hp c)
  | _ => simp only [streamFault, hs]

/-- A fault leaves the stream no order, so that it does not matter what was counted in it just before. -/
theorem streamFault_count (code : FaultCode) (f : Counters → Counters) :
    streamFault st code (count st f s) = streamFault st code s := by
  have hc := standing_setStanding s st ((s.standing st).mapOrder fun o => { o with counters := f o.counters })
  cases hs : s.standing st with
  | idle => rw [count, mapOrder, hs, Standing.mapOrder, ← hs, setStanding_standing]
  | bound b p =>
    rw [hs] at hc
    by_cases hp : ∃ c, p = .faulted c
    · obtain ⟨c, rfl⟩ := hp
      rw [count_faulted hs]
    · push Not at hp
      have hp' : ∀ c, p.mapOrder (fun o => { o with counters := f o.counters }) ≠ .faulted c := fun c h => by
        cases p with
        | faulted c' => exact hp c' rfl
        | _ => cases h
      rw [streamFault_first s hs hp, count, mapOrder, hs, streamFault_first _ hc hp', setStanding_setStanding]

/-- A port fault on a transaction of the frame in flight (R154). -/
theorem faultFrame_tallied {f : FlightFrame} {slot : Option Nat} {code : FaultCode} {counted : Bool} {m : Nat}
    (hk : (s.lw k).stream? = some f.stream) : Tallied n s (faultFrame k f slot code counted m s) := by
  have hs : streamFault f.stream code (if counted then s else count f.stream Counters.addLost s)
      = streamFault f.stream code s := by
    split
    · rfl
    · exact streamFault_count s code _
  unfold faultFrame
  dsimp only
  rw [hs]
  generalize Option.map _ _ = r
  exact (faultDrop_tallied s (d := { plainDrop f slot m with retirement := r }) hk rfl rfl).trans
    (startDrop_tallied _ { plainDrop f slot m with retirement := r })

theorem faultDropped_tallied {d : DroppedFrame} (code : FaultCode) (hl : s.lw k = .dropping d) :
    Tallied 1 s (faultDropped k d code s) := by
  unfold faultDropped
  dsimp only
  split
  · exact setDrop_fewer_tallied s hl
  · next hd =>
    split
    · exact (pend_tallied s d.stream).after (setDrop_fewer_tallied _ (by rwa [pend_lw]))
    · exact faultFrame_tallied s (by rw [hl]; exact if_neg hd)

theorem frameTxnFault_tallied (code : FaultCode) : Tallied 1 s (frameTxnFault k code s) := by
  unfold frameTxnFault
  split
  · split
    case h_1 => exact .refl _ s
    case h_6 hl => exact faultDropped_tallied s code hl
    case h_2 hl | h_3 hl | h_4 hl | h_5 hl => exact faultFrame_tallied s (by rw [hl]; rfl)
  · exact dropAnswered_tallied s

/-! ### Frame ends -/

/-- A writer goes on with the frame it holds, which is to be counted as before. -/
theorem setLw_goesOn_tallied {f f' : FlightFrame} {w : Writer} (hf : f'.stream = f.stream)
    (hs : (s.lw k).stream? = some f.stream) (hu : ∀ st, (s.lw k).uncounted st = (f.stream == st))
    (hs' : w.stream? = some f'.stream) (hu' : ∀ st, w.uncounted st = (f'.stream == st)) :
    Tallied n s (s.setLw k w) :=
  setLw_tallied s (.inl fun h => by rw [h] at hs; cases hs) (fun st h => by rw [hs, ← hf, ← hs', h])
    fun st => by rw [hu, hu', hf]

theorem commitFrame_tallied {o : CurrentOrder} {f : FlightFrame} {p : Placement} {value : Word}
    (hl : s.lw k = .closing f p) : Tallied n s (commitFrame k o f p value s) := by
  have h1 : ∀ g m, g.stream = f.stream → Tallied n s (s.setLw k (.committing g p .metadata m)) := fun g m hg =>
    setLw_goesOn_tallied s hg (by rw [hl]; rfl) (fun _ => by rw [hl]; rfl) rfl fun _ => rfl
  unfold commitFrame
  dsimp only
  exact Tallied.trans (h1 _ _ (by rfl)) (enqueue_tallied _ _)

theorem frameDecision_tallied : Tallied n s (frameDecision k s) := by
  unfold frameDecision
  split
  case h_1 f p hl =>
    split
    case h_1 =>
      split
      case isTrue =>
        split
        · have h1 : Tallied 0 s ((count f.stream Counters.addGated s).setLw k .idle) :=
            count_settle_tallied s (by rw [hl]; rfl) (by simp [hl, Writer.uncounted]) Writer.onlyOf_idle rfl
              (fun _ => Counters.addGated_balanced) fun _ => .of_same rfl rfl
          have h2 : Tallied 0 s (count f.stream Counters.addGated (s.setLw k .idle)) := h1
          exact (h2.trans (haltingEnd_tallied _ (by rw [count_lw, lw_setLw]; rfl))).weaken n
        · exact commitFrame_tallied s hl
      case isFalse => exact .refl _ s
    all_goals exact .refl _ s
  all_goals exact .refl _ s

theorem advance_tallied : Tallied n s (advance k s) := by
  unfold advance
  split
  case h_1 f p hl =>
    split
    · split
      · exact (setLw_goesOn_tallied s (w := .closing f p) rfl (by rw [hl]; rfl) (fun _ => by rw [hl]; rfl) rfl
          fun _ => rfl).trans (frameDecision_tallied _)
      · exact .refl _ s
    · exact .refl _ s
  all_goals exact .refl _ s

theorem reportEnd_tallied (e : FrameEnd) : Tallied n s (reportEnd k e s) := by
  unfold reportEnd
  split
  case h_1 f i r issued hl =>
    exact setLw_goesOn_tallied s (f := f) (f' := { f with ended := some e }) rfl (by rw [hl]; rfl)
      (fun _ => by rw [hl]; rfl) rfl fun _ => rfl
  case h_2 f p hl =>
    exact (setLw_goesOn_tallied s (f := f) (f' := { f with ended := some e }) rfl (by rw [hl]; rfl)
      (fun _ => by rw [hl]; rfl) rfl fun _ => rfl).trans (advance_tallied _)
  case h_3 f p hl =>
    exact (setLw_goesOn_tallied s (f := f) (f' := { f with ended := some e }) rfl (by rw [hl]; rfl)
      (fun _ => by rw [hl]; rfl) rfl fun _ => rfl).trans (frameDecision_tallied _)
  all_goals exact .refl _ s

/-! ### Commits -/

theorem progress_tallied : Tallied n s (progress st s) := by
  unfold progress
  split
  · exact .refl _ s
  · split
    · exact ((mapOrder_tallied_same s (f := fun o => { o with commitsSince := 0 }) fun _ => rfl).trans
        (enqueue_tallied _ _)).trans (pend_tallied _ st)
    · exact .refl _ s

theorem afterCommit_rose (x : StreamId) : RoseAt n (s.order? x) ((afterCommit st s).order? x) := by
  unfold afterCommit
  split
  case h_1 => split <;> exact (retire_withdraws s fun _ => rfl).rose x
  case h_2 =>
    split
    · exact (retire_withdraws s fun _ => rfl).rose x
    · exact (progress_tallied s).rose x
  all_goals exact .refl n _

theorem afterCommit_tallied (hc : s.Counted st) : Tallied n s (afterCommit st s) := by
  unfold afterCommit
  split
  case h_1 => split <;> exact retire_tallied s hc fun _ => rfl
  case h_2 =>
    split
    · exact retire_tallied s hc fun _ => rfl
    · exact progress_tallied s
  all_goals exact .refl n s

/-- A commit that completes is counted, and what follows it finds no frame in flight. -/
theorem commitEnds_tallied {c : Context} {slot : Nat} {number : Half}
    (hm : c.standing = (s.standing st).mapOrder fun o => o.addCommit slot number)
    (hk : (s.lw k).stream? = some st) (hu : (s.lw k).uncounted st = true) :
    Tallied 0 s (afterCommit st ((s.setCtx st c).setLw k .idle)) := by
  have h1 : Tallied 0 s ((s.setCtx st c).setLw k .idle) :=
    settle_tallied s hm hk hu Writer.onlyOf_idle rfl (fun _ => Counters.addCommit_balanced _)
      fun _ => .of_same rfl rfl
  refine ⟨fun h => ?_, fun x => (h1.rose x).trans (afterCommit_rose (n := 0) _ x),
    by rw [State.counts, afterCommit_dc]; exact id⟩
  obtain ⟨b, q, hs, hb, -⟩ := (h.fits st).bound hk
  refine (afterCommit_tallied (n := 0) _ fun b' q' hs' _ => ?_).framed (h1.framed h)
  have hst : ((s.setCtx st c).setLw k .idle).standing st = c.standing :=
    congrArg Context.standing (ctx_setCtx s st c)
  rw [hst, hm, hs] at hs'
  cases hs'
  rw [hb, lw_setLw]
  rfl

theorem completeCommit_tallied {f : FlightFrame} {p : Placement} {missedBy : Half}
    (hk : (s.lw k).stream? = some f.stream) (hu : (s.lw k).uncounted f.stream = true) :
    Tallied 0 s (completeCommit k f p missedBy s) := by
  unfold completeCommit
  dsimp only
  exact commitEnds_tallied s rfl hk hu

/-! ### The page search and the answers -/

theorem bindFrame_tallied {o : CurrentOrder} {f : FlightFrame} {slot i r : Nat} {fill : Half} {issued : Bool}
    (hl : s.lw k = .searching f i r issued) : Tallied n s (bindFrame k o f slot fill s) := by
  unfold bindFrame
  dsimp only
  have h1 : Tallied n s (mapOrder f.stream (fun o => { o with cursor := slot }) s) :=
    mapOrder_tallied_same s fun _ => rfl
  refine ((h1.trans (setLr_tallied _ k _)).trans (setLw_goesOn_tallied _ (f := f) ?_ ?_ ?_ rfl fun _ => rfl)).trans
    (advance_tallied _)
  · rfl
  · show (s.lw k).stream? = _
    rw [hl]; rfl
  · show ∀ st, (s.lw k).uncounted st = _
    rw [hl]; exact fun _ => rfl

theorem searchAnswered_tallied {f : FlightFrame} {slot read : Nat} (data : Read16)
    (hl : s.lw k = .searching f slot read true) : Tallied 1 s (searchAnswered k data f slot read s) := by
  unfold searchAnswered
  split
  · exact .refl _ s
  · split
    · exact bindFrame_tallied s hl
    · split
      · exact setLw_goesOn_tallied s (f := f) rfl (by rw [hl]; rfl) (fun _ => by rw [hl]; rfl) rfl fun _ => rfl
      · exact loseSearched_tallied s hl (fun _ => Counters.addHeld_balanced) Counters.addHeld_rose

theorem dataWriteOk_tallied : Tallied 1 s (dataWriteOk k s) := by
  unfold dataWriteOk
  split
  case h_1 f p hl =>
    exact setLw_goesOn_tallied s (f := f) rfl (by rw [hl]; rfl) (fun _ => by rw [hl]; rfl) rfl fun _ => rfl
  case h_2 f p hl =>
    exact (setLw_goesOn_tallied s (f := f) rfl (by rw [hl]; rfl) (fun _ => by rw [hl]; rfl) rfl fun _ => rfl).trans
      (frameDecision_tallied _)
  case h_3 => exact dropAnswered_tallied s
  all_goals exact .refl _ s

theorem slotReadOk_tallied (data : Read16) : Tallied 1 s (slotReadOk k data s) := by
  unfold slotReadOk
  split
  case h_1 hl => exact searchAnswered_tallied s data hl
  case h_2 => exact dropAnswered_tallied s
  all_goals exact .refl _ s

theorem metadataOk_tallied : Tallied 1 s (metadataOk k s) := by
  unfold metadataOk
  split
  case h_1 f p m hl =>
    split
    · exact (setLw_goesOn_tallied s (f := f) (w := .committing f p .fill m) rfl (by rw [hl]; rfl)
        (fun _ => by rw [hl]; rfl) rfl fun _ => rfl).trans (enqueue_tallied _ _)
    · exact .refl _ s
  case h_2 => exact dropAnswered_tallied s
  all_goals exact .refl _ s

theorem fillOk_tallied : Tallied 1 s (fillOk k s) := by
  unfold fillOk
  split
  case h_1 hl =>
    exact (completeCommit_tallied s (by rw [hl]; rfl) (by simp [hl, Writer.uncounted])).weaken 1
  case h_2 => exact dropAnswered_tallied s
  all_goals exact .refl _ s

end

end Sys2Proof.Machine

/-! PROOFS. Requests, frame starts, trigger edges and arm deadlines tally. -/

namespace Sys2Proof.Machine

/-! ### Requests (R12 to R23) -/

section
variable (s : State) {n : Nat} {st : StreamId}

theorem answer_tallied {number : Byte} {r : RequestResult} : Tallied n s (answer st number r s) := by
  refine Tallied.trans (setCtx_tallied_same s ?_) (pend_tallied _ st)
  rfl

/-- A stream that START binds had no frame in flight. -/
theorem actStart_tallied (a : Anchor) : Tallied n s (actStart st a s) := by
  unfold actStart
  split
  · exact answer_tallied s
  · next hs =>
    split
    · exact answer_tallied s
    · split
      · refine Tallied.trans (setCtx_tallied s (fun h => ?_) (.none n _)) (pend_tallied _ st)
        rw [hs] at h
        refine ⟨fun k hk => absurd hk (h k), ?_⟩
        rw [uncounted_of_stream? (h _)]
        exact .of_orderless rfl
      · exact answer_tallied s

theorem actHalt_tallied (number : Byte) : Tallied n s (actHalt st number s) := by
  unfold actHalt
  split
  case h_1 b r hs =>
    have hc : s.Counted st := .of_phase s hs fun _ => ⟨nofun, nofun⟩
    exact (enter_orderless_tallied s hc rfl).trans (answer_tallied _)
  case h_2 b o d hs =>
    have hc : s.Counted st := .of_phase s hs fun _ => ⟨nofun, nofun⟩
    exact (retire_tallied s hc fun _ => rfl).trans (answer_tallied _)
  case h_3 b o hs =>
    split
    · refine Tallied.trans (enter_tallied s (fun b' q hs' h => ?_) ?_) (answer_tallied _)
      · rw [hs] at hs'
        cases hs'
        exact ⟨fun _ => ⟨o, .inr rfl⟩, h.balanced⟩
      · exact .of_eq (by rw [State.order?, hs]; rfl)
    · next hf =>
      have hc : s.Counted st := fun b' q hs' _ => by
        rw [hs] at hs'
        cases hs'
        exact uncounted_of_stream? fun hk => hf ((frameInFlight_iff hs).mpr hk)
      exact (retire_tallied s hc fun _ => rfl).trans (answer_tallied _)
  case h_4 b a hs =>
    have hc : s.Counted st := .of_phase s hs fun _ => ⟨nofun, nofun⟩
    exact (enter_orderless_tallied s hc rfl).trans (answer_tallied _)
  all_goals exact answer_tallied s

theorem actResume_tallied (number : Byte) : Tallied n s (actResume st number s) := by
  unfold actResume
  split
  case h_1 b r hs =>
    have hc : s.Counted st := .of_phase s hs fun _ => ⟨nofun, nofun⟩
    exact (enter_orderless_tallied s hc rfl).trans (answer_tallied _)
  all_goals exact answer_tallied s

/-- A FORGET leaves a writer a frame of no stream but those it held one of, and not of the one forgotten. -/
theorem stream?_disownedBy {w : Writer} {x : StreamId} (h : (w.disownedBy st).stream? = some x) :
    w.stream? = some x ∧ (x = st → w.uncounted st = true) := by
  cases w with
  | idle => cases h
  | dropping d =>
    simp only [Writer.disownedBy, Writer.stream?] at h
    split at h
    · cases h
    · next hd =>
      simp only [Bool.or_eq_true, beq_iff_eq, not_or] at hd
      exact ⟨(if_neg hd.1).trans h, fun hx => absurd ((Option.some.inj h).trans hx) hd.2⟩
  | _ => exact ⟨h, fun hx => beq_iff_eq.mpr ((Option.some.inj h).trans hx)⟩

theorem uncounted_disownedBy {w : Writer} {x : StreamId} (hx : x ≠ st) :
    (w.disownedBy st).uncounted x = w.uncounted x := by
  cases w with
  | dropping d =>
    simp only [Writer.disownedBy, Writer.uncounted]
    by_cases hd : d.stream = x
    · have hn : (d.stream == st) = false := beq_false_of_ne fun h => hx (hd.symm.trans h)
      simp only [hn, Bool.or_false]
    · have hn : (d.stream == x) = false := beq_false_of_ne hd
      have hn' : ({ d with disowned := d.disowned || d.stream == st } : DroppedFrame).stream = d.stream := rfl
      rw [hn', hn, Bool.and_false, Bool.and_false]
  | _ => rfl

/-- A stream with no frame to be counted can be forgotten: the frame its writer drops is no longer its own. -/
theorem forget_tallied {b : Binding} {q : Phase} (hs : s.standing st = .bound b q)
    (hq : ∀ o, q ≠ .capturing o ∧ q ≠ .halting o) :
    Tallied n s (disown st (s.setCtx st (s.ctx st).forgotten)) := by
  have hl : ∀ k, (disown st (s.setCtx st (s.ctx st).forgotten)).lw k = (s.lw k).disownedBy st := fun k =>
    lw_disown _ st k
  have hst : ∀ x, (disown st (s.setCtx st (s.ctx st).forgotten)).standing x
      = if x = st then .idle else s.standing x := fun x => by
    show (s.setCtx st (s.ctx st).forgotten).standing x = _
    split
    · next hx => subst hx; exact congrArg Context.standing (ctx_setCtx s x _)
    · next hx => exact congrArg Context.standing (ctx_setCtx_ne s hx _)
  refine ⟨fun h => ⟨h.active.imp_right fun h k => by rw [hl, h k]; rfl, fun x => ?_⟩, fun x => ?_, id⟩
  · rw [hst]
    split
    · next hx =>
      subst hx
      intro k hk
      rw [hl] at hk
      obtain ⟨hk, hu⟩ := stream?_disownedBy hk
      obtain ⟨b', q', hs', rfl, hf⟩ := (h.fits x).bound hk
      rw [hs] at hs'
      cases hs'
      exact absurd (hu rfl) (Bool.eq_false_iff.mp (hf.counted hq))
    · next hx =>
      refine (h.fits x).of_writers (fun k hk => ?_) fun k => ?_
      · rw [hl] at hk
        exact (stream?_disownedBy hk).1
      · rw [hl, uncounted_disownedBy hx]
  · have ho : (disown st (s.setCtx st (s.ctx st).forgotten)).order? x
        = (if x = st then .idle else s.standing x : Standing).order? := congrArg Standing.order? (hst x)
    rw [ho]
    split
    · exact .none n _
    · exact .refl n _

theorem actForget_tallied (number : Byte) : Tallied n s (actForget st number s) := by
  unfold actForget
  split
  case h_1 hs | h_2 hs | h_3 hs =>
    exact (forget_tallied s hs fun _ => ⟨nofun, nofun⟩).trans (answer_tallied _)
  all_goals exact answer_tallied s

theorem actRequest_tallied (a : Anchor) : Tallied n s (actRequest st a s) := by
  unfold actRequest
  split
  · exact actStart_tallied s a
  · split
    · exact actHalt_tallied s _
    · split
      · exact actResume_tallied s _
      · split
        · exact actForget_tallied s _
        · exact answer_tallied s

theorem takeRequest_tallied {number : Byte} {act : State → State} (h : Tallied n s (act s)) :
    Tallied n s (takeRequest st number act s) := by
  unfold takeRequest
  split
  · exact h
  · exact .refl _ s

end

/-! ### Frame starts, trigger edges and arm deadlines -/

theorem Counters.meet_thinned_balanced {o : CurrentOrder} {u : Bool} (h0 : o.thinPhase ≠ 0)
    (h : o.counters.balanced u) : o.meet.counters.balanced u := by
  rw [meet_thinned h0]
  simp only [Counters.balanced] at h ⊢
  generalize (if u = true then 1 else 0 : Word) = x at h ⊢
  bv_omega

theorem Counters.meet_offered_balanced {o : CurrentOrder} (h0 : o.thinPhase = 0) (h : o.counters.balanced false) :
    o.meet.counters.balanced true := by
  rw [meet_selected h0]
  simp only [Counters.balanced, if_true, Bool.false_eq_true, if_false] at h ⊢
  bv_omega

theorem Counters.meet_lost_balanced {o : CurrentOrder} {u : Bool} (h0 : o.thinPhase = 0)
    (h : o.counters.balanced u) : o.meet.oneLost.counters.balanced u := by
  rw [meet_selected h0]
  simp only [Counters.balanced, CurrentOrder.oneLost] at h ⊢
  generalize (if u = true then 1 else 0 : Word) = x at h ⊢
  bv_omega

section
variable (s : State) {n : Nat} {st : StreamId} {k : Lane}

/-- A CAPTURING stream's order can be replaced by one that is balanced as well. -/
theorem setCapturing_tallied {b : Binding} {o o' : CurrentOrder} (hs : s.standing st = .bound b (.capturing o))
    (hb : ∀ u, o.counters.balanced u → o'.counters.balanced u) (hr : o.counters.RoseTo n o'.counters) :
    Tallied n s (s.setStanding st (.bound b (.capturing o'))) := by
  refine setStanding_tallied s hs (fun h => ⟨fun _ => ⟨o', .inl rfl⟩, fun x hx => ?_⟩) fun x hx => ?_
  · cases hx
    exact hb _ (h.balanced o rfl)
  · cases hx
    exact .inr ⟨o, rfl, hr⟩

/-- A frame is offered: the order meets it as its writer takes it. -/
theorem offer_tallied {b : Binding} {o o' : CurrentOrder} {f : FlightFrame} {i r : Nat} {issued : Bool}
    (hd : s.dc.device = .running) (hs : s.standing st = .bound b (.capturing o)) (hk : b.lane = k)
    (hi : s.lw k = .idle) (hf : f.stream = st) (hb : o.counters.balanced false → o'.counters.balanced true)
    (hr : o.counters.RoseTo n o'.counters) :
    Tallied n s ((s.setStanding st (.bound b (.capturing o'))).setLw k (.searching f i r issued)) := by
  have hst : (s.setStanding st (.bound b (.capturing o'))).standing st = .bound b (.capturing o') :=
    standing_setStanding s st _
  have hu : (Writer.searching f i r issued).uncounted st = true := beq_iff_eq.mpr hf
  refine .of_lane (st := st) rfl (fun y hy => standing_setStanding_ne s hy _) (fun _ => rfl) (.inl (.inl hd))
    (hi ▸ Writer.onlyOf_idle) (Writer.onlyOf_of_stream? (congrArg some hf)) (fun _ => ⟨b, _, hs, hk⟩)
    (fun b' q hs' h => ?_) ?_
  · rw [hs] at hs'
    cases hs'
    have hbal := h.balanced o rfl
    rw [hi] at hbal
    rw [hu]
    exact ⟨_, hst, fun _ => ⟨o', .inl rfl⟩, fun x hx => by cases hx; exact hb hbal⟩
  · rw [State.order?, State.order?, hst, hs]
    exact fun x hx => by cases hx; exact .inr ⟨o, rfl, hr⟩

theorem meetFrame_tallied {b : Binding} {o : CurrentOrder} (h : FrameHeader) (hd : s.dc.device = .running)
    (hs : s.standing st = .bound b (.capturing o)) (hk : b.lane = k) :
    Tallied 1 s (meetFrame st o k h s).2 := by
  have hm : o.counters.RoseTo 0 o.meet.counters := .of_same rfl rfl
  rw [meetFrame_eq hs]
  split
  · next h0 =>
    exact (setCapturing_tallied s hs (fun _ => Counters.meet_thinned_balanced h0) hm).weaken 1
  · next h0 =>
    have h0 : o.thinPhase = 0 := not_not.mp h0
    split
    · next hi => exact (offer_tallied s hd hs hk hi rfl (Counters.meet_offered_balanced h0) hm).weaken 1
    · exact setCapturing_tallied s hs (fun _ => Counters.meet_lost_balanced h0)
        (hm.trans (Counters.addLost_rose _))

theorem lane_of_find {tag : Tag} {b : Binding} {p : Phase}
    (hf : allStreams.find? (holdsPair k tag s) = some st) (hs : s.standing st = .bound b p) : b.lane = k := by
  have h := List.find?_some hf
  simp only [holdsPair, hs, Standing.binding?, Binding.isPair, Bool.and_eq_true, beq_iff_eq] at h
  exact h.1

/-- An ARMED stream becomes CAPTURING with its order as it stands. -/
theorem capture_tallied {b : Binding} {o : CurrentOrder} {d : Option Time} (hs : s.standing st = .bound b (.armed o d)) :
    Tallied n s (enter st (.capturing o) s) := by
  refine enter_tallied s (fun b' q hs' h => ?_) (.of_eq (by rw [State.order?, hs]; rfl))
  rw [hs] at hs'
  cases hs'
  exact ⟨fun _ => ⟨o, .inl rfl⟩, h.balanced⟩

theorem frameStart_tallied (h : FrameHeader) (hd : s.dc.device = .running) :
    Tallied 1 s (frameStart k h s).2 := by
  unfold frameStart
  split
  · exact .refl _ s
  · next st hf =>
    split
    case h_1 b o hs => exact meetFrame_tallied s h hd hs (lane_of_find s hf hs)
    case h_2 b o d hs =>
      split
      · have he : (enter st (.capturing o) s).standing st = .bound b (.capturing o) := by
          simp only [enter, hs, pend_standing]
          exact standing_setStanding s st _
        exact (capture_tallied s hs).after (meetFrame_tallied _ h (by rwa [enter_dc]) he (lane_of_find s hf hs))
      · exact mapOrder_tallied s (fun o u => Counters.balanced_congr rfl rfl rfl rfl rfl) fun o => .of_same rfl rfl
    all_goals exact setCtx_tallied_same s rfl

theorem edgeForStream_tallied (e : Edge) : Tallied n s (edgeForStream k e st s) := by
  unfold edgeForStream
  split
  case h_1 hs =>
    split
    · exact capture_tallied s hs
    · exact .refl _ s
  case h_2 =>
    split
    · exact mapOrder_tallied s (fun o u => Counters.balanced_congr rfl rfl rfl rfl rfl) fun o => .of_same rfl rfl
    · exact .refl _ s
  all_goals exact .refl _ s

theorem takeEdge_tallied (e : Edge) : Tallied 0 s (takeEdge k e s) := by
  unfold takeEdge
  split
  · exact Tallied.foldl (fun s st => edgeForStream_tallied s e) _ s
  · exact .refl _ s

theorem expireArm_tallied : Tallied n s (expireArm st s) := by
  unfold expireArm
  split
  case h_1 b o due hs =>
    split
    · exact retire_tallied s (.of_phase s hs fun _ => ⟨nofun, nofun⟩) fun _ => rfl
    · exact .refl _ s
  all_goals exact .refl _ s

end

end Sys2Proof.Machine

/-! PROOFS. Symbols, trigger lines, the Chain Walker's work and device-half faults tally. -/

namespace Sys2Proof.Machine

/-! ### The receivers -/

section
variable (s : State) {n : Nat} {k : Lane}

theorem onLr_tallied (f : Receiver → Receiver) : Tallied n s (onLr k f s) := setLr_tallied s k _

theorem idleSymbol_tallied : Tallied n s (idleSymbol k s) := by
  unfold idleSymbol
  split
  case h_3 => exact onLr_tallied s _
  all_goals exact .refl _ s

theorem loseIfOffered_tallied (a : AcceptedFrame) (why : LossReason) : Tallied 1 s (loseIfOffered k a why s) := by
  unfold loseIfOffered
  split
  · exact reportLoss_tallied s why
  all_goals exact .refl _ s

theorem frameChecks_tallied (a : AcceptedFrame) (failed : Bool) : Tallied 1 s (frameChecks k a failed s) := by
  unfold frameChecks
  dsimp only
  generalize hx : onLr k _ s = x
  have h1 : Tallied 0 s x := hx ▸ onLr_tallied s _
  split
  case h_3 =>
    split
    · exact h1.after (reportLoss_tallied _ _)
    · exact h1.after (reportEnd_tallied _ _)
  all_goals exact h1.weaken 1

theorem startCuts_tallied (a : AcceptedFrame) : Tallied 1 s (startCuts k a s) :=
  (onLr_tallied s _).after (loseIfOffered_tallied _ a _)

theorem abortCuts_tallied (a : AcceptedFrame) : Tallied 1 s (abortCuts k a s) :=
  (onLr_tallied s _).after (loseIfOffered_tallied _ a _)

theorem acceptHeader_tallied (h : FrameHeader) (crc : Half) : Tallied 1 s (acceptHeader k h crc s) := by
  unfold acceptHeader
  split
  · next hd => exact (frameStart_tallied s h hd).trans (onLr_tallied _ _)
  · exact onLr_tallied s _

theorem headerByte_tallied (bytes : List Byte) (crc : Half) (b : Byte) :
    Tallied 1 s (headerByte k bytes crc b s) := by
  unfold headerByte
  dsimp only
  split
  · exact onLr_tallied s _
  · split
    · split
      · exact acceptHeader_tallied s _ _
      · exact onLr_tallied s _
    · exact onLr_tallied s _

theorem markTruncated_tallied : Tallied n s (markTruncated k s) := by
  unfold markTruncated
  split
  case h_1 f p hl | h_2 f p hl =>
    exact setLw_goesOn_tallied s (f := f) (f' := { f with truncated := true }) rfl (by rw [hl]; rfl)
      (fun _ => by rw [hl]; rfl) rfl fun _ => rfl
  all_goals exact .refl _ s

theorem stageByte_tallied (a : AcceptedFrame) (b : Byte) : Tallied 1 s (stageByte k a b s) := by
  unfold stageByte
  dsimp only
  split
  · split
    · exact markTruncated_tallied s
    · exact onLr_tallied s _
  · exact (onLr_tallied s _).after (reportLoss_tallied _ _)

theorem payloadByte_tallied (a : AcceptedFrame) (b : Byte) : Tallied 1 s (payloadByte k a b s) := by
  unfold payloadByte
  dsimp only
  split
  case h_3 =>
    split
    · exact (onLr_tallied s _).after (stageByte_tallied _ _ _)
    · exact onLr_tallied s _
  all_goals exact onLr_tallied s _

theorem startSymbol_tallied : Tallied 1 s (startSymbol k s) := by
  unfold startSymbol
  split
  case h_1 => exact .refl _ s
  case h_2 => exact onLr_tallied s _
  case h_3 =>
    split
    case h_3 | h_4 => exact startCuts_tallied s _
    all_goals exact onLr_tallied s _

theorem endSymbol_tallied : Tallied 1 s (endSymbol k s) := by
  unfold endSymbol
  split
  case h_1 => exact .refl _ s
  case h_2 => exact onLr_tallied s _
  case h_3 =>
    split
    case h_1 => exact .refl _ s
    case h_4 => exact frameChecks_tallied s _ _
    all_goals exact onLr_tallied s _

theorem abortSymbol_tallied : Tallied 1 s (abortSymbol k s) := by
  unfold abortSymbol
  split
  case h_1 => exact .refl _ s
  case h_2 => exact onLr_tallied s _
  case h_3 =>
    split
    case h_1 => exact .refl _ s
    case h_2 => exact onLr_tallied s _
    all_goals exact abortCuts_tallied s _

theorem loseOpen_tallied (f : Option OpenFrame) (why : LossReason) : Tallied 1 s (loseOpen k f why s) := by
  unfold loseOpen
  split
  case h_1 | h_2 => exact loseIfOffered_tallied s _ _
  all_goals exact .refl _ s

theorem codeViolation_tallied : Tallied 1 s (codeViolation k s) := by
  unfold codeViolation
  split
  case h_1 => exact .refl _ s
  case h_2 => exact onLr_tallied s _
  case h_3 =>
    dsimp only
    split <;> exact (onLr_tallied s _).after (loseOpen_tallied _ _ _)

theorem dataByte_tallied (b : Byte) : Tallied 1 s (dataByte k b s) := by
  unfold dataByte
  split
  case h_1 => exact .refl _ s
  case h_2 => exact onLr_tallied s _
  case h_3 =>
    split
    case h_1 => exact .refl _ s
    case h_2 => exact headerByte_tallied s _ _ _
    case h_3 => exact payloadByte_tallied s _ _
    case h_4 => exact onLr_tallied s _
    case h_5 => exact frameChecks_tallied s _ _

theorem sampleLine_tallied : Tallied 0 s (sampleLine k s) := by
  unfold sampleLine
  dsimp only
  split
  · exact .refl _ s
  · split
    · exact setLr_tallied s k _
    · split
      · exact setLr_tallied s k _
      · exact (setLr_tallied s k _).trans (takeEdge_tallied _ _)

theorem tick_tallied : Tallied 0 s (tick s) := by
  unfold tick
  split
  · exact .refl _ s
  · have h1 := Tallied.foldl (fun s k => sampleLine_tallied (k := k) s) allLanes s
    dsimp only
    generalize allLanes.foldl (fun s k => sampleLine k s) s = x at h1 ⊢
    exact h1.trans .of_same

end

/-! ### The Chain Walker -/

section
variable (s : State) {n : Nat} {st : StreamId}

theorem endJob_tallied : Tallied n s (endJob s) := .of_same

theorem setStage_tallied (stage : JobStage) : Tallied n s (setStage stage s) := .of_same

theorem beginFetch_tallied {b : Binding} {x : Addr} (hc : s.Counted st) : Tallied n s (beginFetch st b x s) := by
  unfold beginFetch
  split
  · exact setStage_tallied s _
  · exact (streamFault_tallied s hc).trans (endJob_tallied _)

theorem goOn_tallied : Tallied n s (goOn st s) := by
  unfold goOn
  split
  case h_1 hs => exact beginFetch_tallied s (.of_phase s hs fun _ => ⟨nofun, nofun⟩)
  case h_2 | h_3 => exact setStage_tallied s _
  all_goals exact endJob_tallied s

theorem workFetch_tallied (j : Job) : Tallied n s (workFetch j s) := by
  unfold workFetch
  split
  case h_1 hs => exact beginFetch_tallied s (.of_phase s hs fun _ => ⟨nofun, nofun⟩)
  all_goals exact endJob_tallied s

theorem workLink_tallied (j : Job) : Tallied n s (workLink j s) := by
  unfold workLink
  split
  case h_1 => exact setStage_tallied s _
  all_goals exact endJob_tallied s

theorem takeJob_tallied {kind : JobKind} {work : Job → State → State} (hw : ∀ j x, Tallied 0 x (work j x)) :
    Tallied 0 s (takeJob kind work s) := by
  unfold takeJob
  split
  · exact .refl _ s
  · split
    · exact Tallied.trans .of_same (hw _ _)
    · exact .refl _ s

theorem issueOrderRead_tallied : Tallied n s (issueOrderRead s) := by
  unfold issueOrderRead
  split
  case h_1 =>
    split
    · split
      · exact setStage_tallied s _
      · exact endJob_tallied s
    · exact .refl _ s
  all_goals exact .refl _ s

theorem halfEnded_tallied : Tallied n s (halfEnded s) := by
  unfold halfEnded
  split
  case h_1 => exact setStage_tallied s _
  all_goals exact .refl _ s

theorem anchorReadOk_tallied (data : Read16) : Tallied n s (anchorReadOk data s) := by
  unfold anchorReadOk
  split
  · exact .refl _ s
  · split
    · refine Tallied.trans ?_ (goOn_tallied _)
      split
      · exact actRequest_tallied s _
      · exact .refl _ s
    · exact endJob_tallied s

theorem order?_acceptedPhase (o : CurrentOrder) : (acceptedPhase o).order? = some o := by
  unfold acceptedPhase; split <;> rfl

/-- The counters of an accepted order are 0. -/
theorem acceptedPhase_fits (a : Addr) (p : OrderParams) (t : Time) :
    (acceptedPhase (acceptedOrder a p t)).Fits false where
  current h := nomatch h
  balanced o ho := by
    rw [order?_acceptedPhase] at ho
    cases ho
    rfl

theorem acceptOrder_tallied {a : Addr} {p : OrderParams} (hc : s.Counted st) :
    Tallied n s (acceptOrder st a p s) := by
  refine Tallied.trans (enter_tallied s (fun b q hs h => ?_) fun o ho => ?_) (enqueue_tallied _ _)
  · rw [hc b q hs h]
    exact acceptedPhase_fits ..
  · rw [order?_acceptedPhase] at ho
    cases ho
    exact .inl (.refl n _)

theorem judgeOrder_tallied {b : Binding} {a : Addr} {data : Read128} (hc : s.Counted st) :
    Tallied n s (judgeOrder st b a data s) := by
  have refuse : ∀ outcome reason, Tallied n s (refuseOrder st a outcome reason s) := fun outcome reason =>
    (enter_orderless_tallied s hc rfl).trans (enqueue_tallied _ _)
  unfold judgeOrder
  split
  · exact streamFault_tallied s hc
  · split
    · exact refuse _ _
    · split
      · exact refuse _ _
      · exact acceptOrder_tallied s hc

theorem counted_of_holdsFetch {a : Addr} {b : Binding} (h : holdsFetch st a s = some b) : s.Counted st :=
  .of_phase s (holdsFetch_some s h) fun _ => ⟨nofun, nofun⟩

theorem orderReadOk_tallied (data : Read128) : Tallied n s (orderReadOk data s) := by
  unfold orderReadOk
  split
  · exact .refl _ s
  · split
    · split
      · next hb => exact (judgeOrder_tallied s (counted_of_holdsFetch s hb)).trans (endJob_tallied _)
      · exact endJob_tallied s
    · exact endJob_tallied s

theorem counted_of_holdsLink {a : Addr} (h : holdsLink st a s ≠ .neither) : s.Counted st := by
  cases hs : s.standing st with
  | idle => intro b q hs'; rw [hs] at hs'; cases hs'
  | bound b q =>
    refine .of_phase s hs fun o => ⟨fun hq => ?_, fun hq => ?_⟩ <;>
    · subst hq
      exact h (by simp only [holdsLink, hs])

theorem followLink_tallied {a link : Addr} : Tallied n s (followLink st a link s) := by
  unfold followLink
  split
  · exact .refl _ s
  · next hl =>
    have hc : s.Counted st := counted_of_holdsLink s (a := a) (by rw [hl]; exact nofun)
    split
    · exact enter_orderless_tallied s hc rfl
    · split
      · exact (enter_orderless_tallied s hc rfl).trans (askJob_tallied _ _ _)
      · exact streamFault_tallied s hc
  · next hl =>
    have hc : s.Counted st := counted_of_holdsLink s (a := a) (by rw [hl]; exact nofun)
    split
    · exact .refl _ s
    · split
      · exact (enter_orderless_tallied s hc rfl).trans (askJob_tallied _ _ _)
      · exact streamFault_tallied s hc

theorem linkReadOk_tallied (data : Read16) : Tallied n s (linkReadOk data s) := by
  unfold linkReadOk
  split
  · exact .refl _ s
  · split
    · exact (followLink_tallied s).trans (endJob_tallied _)
    · exact endJob_tallied s

theorem orderReadFaulted_tallied : Tallied n s (orderReadFaulted s) := by
  unfold orderReadFaulted
  split
  · exact .refl _ s
  · split
    · next h =>
      obtain ⟨b, hb⟩ := Option.isSome_iff_exists.mp h.2
      exact (streamFault_tallied s (counted_of_holdsFetch s hb)).trans (endJob_tallied _)
    · exact endJob_tallied s

theorem linkReadFaulted_tallied : Tallied n s (linkReadFaulted s) := by
  unfold linkReadFaulted
  split
  · exact .refl _ s
  · split
    · next h => exact (streamFault_tallied s (counted_of_holdsLink s h.2)).trans (endJob_tallied _)
    · exact endJob_tallied s

theorem endAwait_tallied : Tallied n s (endAwait st s) := by
  unfold endAwait
  split
  case h_1 =>
    split
    · exact endJob_tallied s
    · exact .refl _ s
  all_goals exact .refl _ s

theorem dropped_plain {w : Writer} {m : Nat} {d : DroppedFrame} (h : w.dropped m = some d)
    (hs : w.stream? = some st) : d.stream = st ∧ d.countLost = false := by
  cases w with
  | idle => cases h
  | dropping d' =>
    cases h
    simp only [Writer.stream?] at hs
    split at hs
    · cases hs
    · exact ⟨Option.some.inj hs, rfl⟩
  | _ => cases h; exact ⟨Option.some.inj hs, rfl⟩

/-- A stream faulted by a write of its order loses the frame it has in flight, with its order (R155, R156). -/
theorem faultAbandon_tallied {b : Binding} {p : Phase} {code : FaultCode} (hs : s.standing st = .bound b p) :
    Tallied n s (abandonFrame b.lane st (streamFault st code s)) := by
  unfold abandonFrame
  rw [streamFault_lw]
  split
  · next hk =>
    split
    · next d hd =>
      obtain ⟨hds, hc⟩ := dropped_plain hd hk
      have h0 : d.losses = 0 := if_neg (by rw [hc]; exact nofun)
      exact (faultDrop_tallied s hk hds hc).trans (h0 ▸ startDrop_tallied _ d)
    · next hd => cases hw : s.lw b.lane <;> simp [hw, Writer.dropped, Writer.stream?] at hd hk
  · next hk =>
    refine streamFault_tallied s fun b' q hs' _ => ?_
    rw [hs] at hs'
    cases hs'
    exact uncounted_of_stream? hk

theorem halfFaulted_tallied (disowned : Bool) : Tallied n s (halfFaulted st disowned s) := by
  unfold halfFaulted
  dsimp only
  refine Tallied.after (halfEnded_tallied s) ?_
  generalize halfEnded s = x
  split
  · split
    · exact .refl _ x
    · exact pend_tallied x st
    · next hs => exact (faultAbandon_tallied x hs).trans (endAwait_tallied _)
  · exact .refl _ x

theorem sweep_tallied : Tallied 0 s (sweep s) := by
  unfold sweep
  split
  case h_1 =>
    split
    · exact Tallied.trans .of_same (Tallied.foldl (fun _ _ => .of_same) _ _)
    · exact .refl _ s
  all_goals exact .refl _ s

theorem attendWrite_tallied (v : Word) : Tallied n s (attendWrite v s) := by
  unfold attendWrite
  split
  · split <;> exact .of_same
  · exact .of_same

theorem notifyPublished_tallied (e : StreamId × Option Addr) : Tallied n s (notifyPublished e s) := by
  unfold notifyPublished
  split
  · next b a' r _ hs =>
    split
    · dsimp only
      have h1 : ∀ a, Tallied n s (s.setStanding e.1 (.bound b (.fetching (.link a true)))) := fun a =>
        setStanding_tallied s hs (fun h => by rw [h.counted fun _ => ⟨nofun, nofun⟩]; exact .of_orderless rfl)
          (.none n _)
      split
      · exact h1 _
      · exact (h1 _).trans (askJob_tallied _ _ _)
    · exact .refl _ s
  · exact .refl _ s

end

end Sys2Proof.Machine

/-! PROOFS. What a step does for the laws of R90 and R91: an operation that tallies, an entry to RESETTING or BROKEN,
a reset, an entry to RUNNING and the end of a publication. -/

namespace Sys2Proof.Machine

/-- The two laws go from one state to the other. -/
structure Balances (s t : State) : Prop where
  frames : QuietLaw s → FrameLaw s → FrameLaw t
  held : (∀ st o, s.order? st = some o → o.counters.lost.toNat < 4294967295) → HeldLaw s → HeldLaw t

/-- With no lost count at its last value, held stays within lost. -/
theorem heldLaw_of_rose {s t : State} (hr : ∀ st, RoseAt 1 (s.order? st) (t.order? st))
    (hw : ∀ st o, s.order? st = some o → o.counters.lost.toNat < 4294967295) (hs : HeldLaw s) : HeldLaw t := by
  intro st o' ho'
  obtain h | ⟨o, ho, h⟩ := hr st o' ho'
  · exact h.within le_rfl (by decide)
  · exact h.within (hs st o ho) (hw st o ho)

/-- A part that counts frames and does not work is settled, and holds none. -/
theorem Framed.of_laws {s : State} (hq : QuietLaw s) (hf : FrameLaw s) (hc : s.counts) : Framed s where
  active := by
    cases hd : s.dc.device with
    | running => exact .inl (.inl hd)
    | quiescing => exact .inl (.inr hd)
    | off => exact .inr (hq.1 (.inl hd))
    | quiet => exact .inr (hq.1 (.inr (.inl hd)))
    | loading l => exact .inr (hq.1 (.inr (.inr (.inl ⟨l, hd⟩))))
    | resetting => exact absurd hd hc.1
    | broken => exact absurd hd hc.2
  fits := (frameLaw_iff s).mp hf hc

section
variable {s t : State}

theorem Balances.of_framed (hc : t.counts → s.counts) (hf : QuietLaw s → Framed s → Framed t)
    (hr : ∀ st, RoseAt 1 (s.order? st) (t.order? st)) : Balances s t where
  frames hq hs := (frameLaw_iff t).mpr fun h => (hf hq (.of_laws hq hs (hc h))).fits
  held := heldLaw_of_rose hr

theorem Balances.of_tallied (h : Tallied 1 s t) : Balances s t := .of_framed h.counts (fun _ => h.framed) h.rose

theorem Balances.same : Balances s s := .of_tallied (.refl 1 s)

/-- In RESETTING and BROKEN frames are not counted. -/
theorem Balances.of_stopped (hd : ¬ t.counts) (hr : ∀ st, RoseAt 1 (s.order? st) (t.order? st)) : Balances s t where
  frames _ _ h := absurd h hd
  held := heldLaw_of_rose hr

/-- After a reset no stream is bound and no frame held. -/
theorem Balances.of_reset (hs : ∀ st, t.standing st = .idle) (hl : ∀ k, t.lw k = .idle) : Balances s t where
  frames _ _ := (frameLaw_iff t).mpr fun _ st => by
    rw [hs]
    intro k hk
    rw [hl] at hk
    cases hk
  held _ _ st o ho := by rw [State.order?, hs] at ho; cases ho

end

/-! ### Entry to RUNNING -/

section
variable (s : State) {n : Nat} {st : StreamId}

theorem laneDisabledFault_withdraws (b : Binding) : Withdraws st s (laneDisabledFault st b s) := by
  have h : Withdraws st s (streamFault st .laneDisabled s) := streamFault_withdraws s
  unfold laneDisabledFault
  dsimp only
  split
  · exact h
  · split
    · exact h.enqueue _
    · exact h

theorem windowRetest_withdraws {b : Binding} {o : CurrentOrder} {x : State} (hx : Withdraws st s x) :
    Withdraws st s ((windowRetest st b o s).getD x) := by
  unfold windowRetest
  dsimp only
  split
  · cases o.params.outside (s.window b.window) with
    | none => exact hx
    | some r => exact retire_withdraws s fun _ => rfl
  · exact enter_withdraws s rfl

theorem deadlineRetest_withdraws (deadline : Option Time) : Withdraws st s (deadlineRetest st deadline s) := by
  unfold deadlineRetest
  split
  · exact .refl s
  · split
    · exact retire_withdraws s fun _ => rfl
    · exact .refl s

theorem entryTest_withdraws : Withdraws st s (entryTest st s) := by
  unfold entryTest
  split
  · exact .refl s
  · split
    · exact laneDisabledFault_withdraws s _
    · split
      · exact windowRetest_withdraws s (deadlineRetest_withdraws s _)
      · exact windowRetest_withdraws s (.refl s)
      all_goals exact .refl s

/-- The tests of every stream, made while no frame is held. -/
theorem entryTests_framed (l : List StreamId) (h : Framed s) (hi : ∀ k, s.lw k = .idle) :
    Framed (l.foldl (fun s st => entryTest st s) s) := by
  induction l generalizing s with
  | nil => exact h
  | cons st l ih =>
    have hw := entryTest_withdraws s (st := st)
    refine ih _ ((hw.tallied (n := 0) fun b q _ _ => ?_).framed h) fun k => ?_
    · rw [hi]; rfl
    · rw [State.lw, hw.writers]; exact hi k

theorem entryTests_rose (l : List StreamId) (x : StreamId) :
    RoseAt 0 (s.order? x) ((l.foldl (fun s st => entryTest st s) s).order? x) := by
  induction l generalizing s with
  | nil => exact .refl 0 _
  | cons st l ih => exact ((entryTest_withdraws s).rose (n := 0) x).trans (ih _)

theorem startRunning_tallied (sn : Snapshot) (hc : s.counts) : Tallied n s (startRunning sn s) :=
  .of_same (fun _ => .inl rfl) fun _ => hc

theorem beginLaneRefresh_tallied : Tallied n s (beginLaneRefresh s) := .of_same

theorem resumeFromQuiet_balances (sn : Snapshot) {l : Load} (hd : s.dc.device = .loading l) :
    Balances s (resumeFromQuiet (startRunning sn s)) := by
  have hc : s.counts := by rw [State.counts, hd]; exact ⟨nofun, nofun⟩
  have hx : ∀ x : State, Tallied 0 x (beginLaneRefresh { x with rw := { x.rw with
      pendingSet := Vector.replicate 24 true } }) := fun x => Tallied.trans .of_same (beginLaneRefresh_tallied _)
  have h1 := startRunning_tallied s sn hc (n := 0)
  have hr : ∀ x, RoseAt 0 (s.order? x) ((allStreams.foldl (fun s st => entryTest st s) (startRunning sn s)).order? x) :=
    fun x => (h1.rose x).trans (entryTests_rose _ _ x)
  have hf : QuietLaw s → Framed s → Framed (allStreams.foldl (fun s st => entryTest st s) (startRunning sn s)) :=
    fun hq hf => entryTests_framed _ _ (h1.framed hf) (hq.1 (.inr (.inr (.inl ⟨l, hd⟩))))
  unfold resumeFromQuiet
  dsimp only
  generalize allStreams.foldl (fun s st => entryTest st s) (startRunning sn s) = y at hr hf ⊢
  exact .of_framed (fun _ => hc) (fun hq h => (hx y).framed (hf hq h)) fun x =>
    ((hr x).trans ((hx y).rose x)).mono (Nat.zero_le 1)

end

end Sys2Proof.Machine

/-! PROOFS. Every command keeps the laws of R90 and R91. -/

namespace Sys2Proof.Machine

/-! ### The register port, loads and resets -/

section
variable (s : State) {n : Nat}

theorem controlEnable_tallied : Tallied n s (controlEnable s) := by
  unfold controlEnable
  split
  case h_1 hd | h_2 hd =>
    have hw : ¬ s.working := by rw [State.working, hd]; exact nofun
    have hc : s.counts := by rw [State.counts, hd]; exact ⟨nofun, nofun⟩
    exact .of_same (fun h => absurd h hw) fun _ => hc
  all_goals exact .of_same

theorem controlQuiesce_tallied : Tallied n s (controlQuiesce s) := by
  unfold controlQuiesce
  split
  · next hd =>
    have hc : s.counts := by rw [State.counts, hd]; exact ⟨nofun, nofun⟩
    exact .of_same (fun _ => .inr rfl) fun _ => hc
  · exact .of_same

theorem controlReset_balances : Balances s (controlReset s) := by
  unfold controlReset
  split
  · exact .of_tallied .of_same
  · exact .of_stopped (fun h => h.1 rfl) fun _ => .refl 1 _

theorem enterBroken_balances {t : State} (hs : t.streams = s.streams) : Balances s (enterBroken t) :=
  .of_stopped (fun h => h.2 rfl) fun st => .of_eq (congrArg (fun v => v[st.val].standing.order?) hs)

theorem boardFault_balances {t : State} (bit : BitVec 4) (h : Tallied 1 s t) (hs : t.streams = s.streams) :
    Balances s (boardFault bit t) := by
  unfold boardFault
  split
  · exact enterBroken_balances s hs
  · exact .of_tallied h

theorem controlWrite_balances (v : Word) : Balances s (controlWrite v s) := by
  unfold controlWrite
  split_ifs
  · exact .same
  · exact .of_tallied (controlEnable_tallied s)
  · exact .of_tallied (controlQuiesce_tallied s)
  · exact controlReset_balances s
  all_goals exact .of_tallied .of_same

theorem boardLoWrite_tallied (v : Word) : Tallied n s (boardLoWrite v s) := by
  unfold boardLoWrite
  split <;> exact .of_same

theorem boardHiWrite_tallied (v : Word) : Tallied n s (boardHiWrite v s) := by
  unfold boardHiWrite
  split <;> exact .of_same

theorem portWrite_balances (offset : BitVec 5) (enables : BitVec 4) (v : Word) :
    Balances s (portWrite offset enables v s) := by
  unfold portWrite
  split
  · exact .same
  · split
    case h_1 => exact controlWrite_balances s v
    case h_2 => exact .of_tallied (boardLoWrite_tallied s v)
    case h_3 => exact .of_tallied (boardHiWrite_tallied s v)
    case h_4 => exact .of_tallied (attendWrite_tallied s v)
    case h_5 | h_6 => exact .of_tallied .of_same
    case h_7 => exact .same

theorem powerOnReset_balances : Balances s (powerOnReset s) :=
  .of_reset (standing_resetBlocks s) (lw_resetBlocks s)

theorem resetComplete_balances : Balances s (resetComplete s) := by
  unfold resetComplete
  split
  · exact .of_reset (standing_resetBlocks s) (lw_resetBlocks s)
  · exact .same

theorem failLoad_tallied (bit : BitVec 4) : Tallied n s (failLoad bit s) := by
  unfold failLoad
  split
  case h_1 l hd =>
    have hw : ¬ s.working := by rw [State.working, hd]; exact nofun
    have hc : s.counts := by rw [State.counts, hd]; exact ⟨nofun, nofun⟩
    exact .of_same (fun h => absurd h hw) fun _ => hc
  all_goals exact .refl n s

theorem headerReadOk_balances (data : Read128) : Balances s (headerReadOk data s) := by
  unfold headerReadOk
  split
  case h_1 l hd =>
    have hw : ¬ s.working := by rw [State.working, hd]; exact nofun
    have hc : s.counts := by rw [State.counts, hd]; exact ⟨nofun, nofun⟩
    dsimp only
    split
    · exact .of_tallied (.of_same (fun h => absurd h hw) fun _ => hc)
    · split
      · next sn _ =>
        cases l.origin with
        | off => exact .of_tallied ((startRunning_tallied s sn hc).trans .of_same)
        | quiet => exact resumeFromQuiet_balances s sn hd
      · exact .of_tallied (failLoad_tallied s _)
  all_goals exact .same

/-! ### The Report Writer -/

theorem published_tallied (p : Publication) : Tallied 0 s (s.published p) :=
  Tallied.trans .of_same (Tallied.foldl (fun s e => notifyPublished_tallied s e) p.batch _)

/-- The closing publication ends past the quiesce point, where no frame is held. -/
theorem completePublication_balances {p : Publication} (hw : s.working) (hp : s.rw.publication = some p) :
    Balances s (completePublication p s) := by
  have h1 := published_tallied s p
  have hpub := published_orderly s p
  have hc : s.counts := by
    obtain hd | hd := hw <;> rw [State.counts, hd] <;> exact ⟨nofun, nofun⟩
  rw [completePublication_eq]
  split
  · next hcl =>
    refine .of_framed (fun _ => hc) (fun hq hf => ?_) fun x => (h1.rose x).mono (Nat.zero_le 1)
    obtain ⟨hd, hb⟩ := hq.2 p hp hcl
    have hset : s.settled := .inr (.inr (.inr ⟨hd, hb⟩))
    have hi : ∀ k, (s.published p).lw k = .idle := fun k =>
      hpub.idle (not_running_of_settled hset) k (hq.idle hset k)
    exact ⟨.inr hi, (h1.framed hf).fits⟩
  · exact .of_tallied (h1.weaken 1)

theorem summaryOk_balances : Balances s (summaryOk s) := by
  obtain ⟨h, _⟩ | ⟨_, _, _, h⟩ | ⟨hw, _, p, hp, h⟩ := summaryOk_cases s <;> rw [h]
  · exact .same
  · exact .of_tallied .of_same
  · exact completePublication_balances s hw hp

theorem initialSummary_tallied : Tallied n s (initialSummary s) := by
  unfold initialSummary
  split
  · exact .of_same
  · exact .refl n s

theorem streamStatusOk_tallied : Tallied n s (streamStatusOk s) := by
  unfold streamStatusOk
  split
  · split
    · exact Tallied.trans .of_same (initialSummary_tallied _)
    · split
      · split <;> exact .of_same
      all_goals exact .refl n s
  · exact .refl n s

theorem laneStatusOk_tallied : Tallied n s (laneStatusOk s) := by
  unfold laneStatusOk
  split
  · exact Tallied.trans .of_same (initialSummary_tallied _)
  · exact .refl n s

theorem refreshExpired_tallied : Tallied n s (refreshExpired s) := by
  unfold refreshExpired
  split
  · split
    · dsimp only
      split <;> exact .of_same
    · exact .refl n s
  all_goals exact .refl n s

theorem beginPublication_tallied : Tallied n s (beginPublication s) := by
  unfold beginPublication
  dsimp only
  generalize readyBatch s = batch
  split
  · exact .of_same
  · exact .refl n s

theorem quiescePoint_tallied : Tallied n s (quiescePoint s) := by
  unfold quiescePoint
  split
  · exact .of_same
  · exact .refl n s

theorem drainRefresh_tallied : Tallied n s (drainRefresh s) := by
  unfold drainRefresh
  split
  · exact .of_same
  · exact .refl n s

theorem closingPublication_tallied : Tallied n s (closingPublication s) := by
  unfold closingPublication
  split
  · exact .of_same
  · exact .refl n s

/-! ### The memory port -/

theorem clientIssued_tallied (x : Txn) : Tallied n s (clientIssued x s) := by
  unfold clientIssued
  split
  case h_1 k a =>
    split
    case h_1 f i r issued hl =>
      exact setLw_goesOn_tallied s (f := f) rfl (by rw [hl]; rfl) (fun _ => by rw [hl]; rfl) rfl fun _ => rfl
    all_goals exact .refl n s
  case h_2 k a bytes =>
    split
    case h_1 f p hl =>
      dsimp only
      refine Tallied.trans (Tallied.trans (setLr_tallied s k _) (setLw_goesOn_tallied _ (f := f) ?_ ?_ ?_ rfl
        fun _ => rfl)) (advance_tallied _)
      · rfl
      · show (s.lw k).stream? = _
        rw [hl]; rfl
      · show ∀ st, (s.lw k).uncounted st = _
        rw [hl]; exact fun _ => rfl
    all_goals exact .refl n s
  case h_3 =>
    split
    case h_1 l hd =>
      have hw : ¬ s.working := by rw [State.working, hd]; exact nofun
      have hc : s.counts := by rw [State.counts, hd]; exact ⟨nofun, nofun⟩
      exact .of_same (fun h => absurd h hw) fun _ => hc
    all_goals exact .refl n s
  all_goals exact .of_same

theorem grantOne_tallied : Tallied n s (grantOne s) := by
  unfold grantOne
  split
  · exact .refl n s
  · split
    · exact .refl n s
    · split
      · exact .refl n s
      · exact Tallied.trans .of_same (clientIssued_tallied _ _)

theorem setExpired_tallied (c : Client) (d : Direction) (v : Byte) : Tallied n s (s.setExpired c d v) := by
  cases d <;> exact .of_same

end

end Sys2Proof.Machine

/-! PROOFS. Every step keeps the laws of R90 and R91. -/

namespace Sys2Proof.Machine

section
variable {s t : State}

theorem Balances.of_live {f : State → State} (h : live f s = .next t) (hf : Balances s (f s)) : Balances s t := by
  unfold live at h
  split at h
  · exact Host.Outcome.next.inj h ▸ .same
  · exact Host.Outcome.next.inj h ▸ hf

/-- What a response or a timeout does goes on from a state that differs in the port alone. -/
theorem Balances.of_port {x : State} (hd : x.dc = s.dc) (hs : x.streams = s.streams) (hl : x.writers = s.writers)
    (hr : x.rw = s.rw) (h : Balances x t) : Balances s t := by
  cases s
  cases x
  cases hd
  cases hs
  cases hl
  cases hr
  exact ⟨h.frames, h.held⟩

theorem Balances.of_respond {c : Client} {d : Direction} {isKind : Txn → Bool} {act : Txn → State → State}
    (hact : ∀ x s, isKind x = true → Balances s (act x s)) : Balances s (respond c d isKind act s) := by
  unfold respond
  split
  · exact .of_tallied (setExpired_tallied s c d _)
  · split
    · exact .same
    · split
      · next hk => exact .of_port (x := removeOldest c d s) rfl rfl rfl rfl (hact _ _ hk)
      · exact .same

end

/-- A port fault, where it is taken (R132). -/
theorem portFault_balances (x : Txn) (s : State) : Balances s (portFault x s) := by
  cases x with
  | slotRead k _ | dataWrite k _ _ | metadataWrite k _ _ | fillWrite k _ _ =>
    exact .of_tallied (frameTxnFault_tallied s _)
  | anchorRead a =>
    unfold portFault anchorReadFaulted
    dsimp only
    split
    · exact .same
    · exact boardFault_balances s _ (endJob_tallied s) rfl
  | orderRead a => exact .of_tallied (orderReadFaulted_tallied s)
  | linkRead a => exact .of_tallied (linkReadFaulted_tallied s)
  | headerRead a => exact .of_tallied (failLoad_tallied s _)
  | deviceHalfWrite st d a h => exact .of_tallied (halfFaulted_tallied s d)
  | streamStatusWrite _ _ | laneStatusWrite _ _ | summaryWrite _ _ =>
    exact boardFault_balances s _ (.refl 1 s) rfl

theorem timeOut_balances (c : Client) (d : Direction) (s : State) : Balances s (timeOut c d s) := by
  have hx : ∀ x : State, (raiseExpired c d x).dc = x.dc ∧ (raiseExpired c d x).streams = x.streams
      ∧ (raiseExpired c d x).writers = x.writers ∧ (raiseExpired c d x).rw = x.rw := fun x => by
    unfold raiseExpired
    split <;> cases d <;> exact ⟨rfl, rfl, rfl, rfl⟩
  unfold timeOut
  split
  · exact .same
  · split
    · obtain ⟨hd, hs, hl, hr⟩ := hx (removeOldest c d s)
      exact .of_port hd hs hl hr (portFault_balances _ _)
    · exact .same

/-- Every command keeps the laws. -/
theorem exec_balances {c : Instr} {s t : State} (h : exec c s = .next t) : Balances s t := by
  cases c with
  | enable => exact .of_live h (.of_tallied (controlEnable_tallied s))
  | quiesce => exact .of_live h (.of_tallied (controlQuiesce_tallied s))
  | reset => exact .of_live h (controlReset_balances s)
  | irqOn | irqOff | seenWrite _ | causeWrite _ => exact .of_live h (.of_tallied .of_same)
  | issueAccepted =>
    exact .of_live (f := fun s => { s with port := { s.port with issuePoint := none } }) h (.of_tallied .of_same)
  | noCommand => exact .of_live (f := id) h .same
  | unknownCommand v => exact .of_live h (controlWrite_balances s v)
  | boardLoWrite v => exact .of_live h (.of_tallied (boardLoWrite_tallied s v))
  | boardHiWrite v => exact .of_live h (.of_tallied (boardHiWrite_tallied s v))
  | attendWrite v => exact .of_live h (.of_tallied (attendWrite_tallied s v))
  | registerWriteOther o e v => exact .of_live h (portWrite_balances s o e v)
  | powerOnReset => exact Host.Outcome.next.inj h ▸ powerOnReset_balances s
  | resetInputReleased => exact Host.Outcome.next.inj h ▸ .of_tallied .of_same
  | idleSymbol k => exact .of_live h (.of_tallied (idleSymbol_tallied s))
  | startSymbol k => exact .of_live h (.of_tallied (startSymbol_tallied s))
  | endSymbol k => exact .of_live h (.of_tallied (endSymbol_tallied s))
  | abortSymbol k => exact .of_live h (.of_tallied (abortSymbol_tallied s))
  | dataByte k b => exact .of_live h (.of_tallied (dataByte_tallied s b))
  | codeViolation k => exact .of_live h (.of_tallied (codeViolation_tallied s))
  | triggerEdge k e =>
    have hm : Tallied 0 s (moveLine k (edgeLevel e) s) := onLr_tallied s _
    change live (sampleLine k) (moveLine k (edgeLevel e) s) = .next t at h
    unfold live at h
    split at h
    · exact Host.Outcome.next.inj h ▸ .of_tallied (hm.weaken 1)
    · exact Host.Outcome.next.inj h ▸ .of_tallied ((hm.trans (sampleLine_tallied _)).weaken 1)
  | armDeadlineExpiry st => exact .of_live h (.of_tallied (expireArm_tallied s))
  | sweepExpiry => exact .of_live h (.of_tallied ((sweep_tallied s).weaken 1))
  | laneRefreshExpiry => exact .of_live h (.of_tallied (refreshExpired_tallied s))
  | responseTimeout c d => exact .of_live h (timeOut_balances c d s)
  | grant => exact .of_live h (.of_tallied (grantOne_tallied s))
  | lateResponse c d =>
    refine .of_live (f := fun s => if s.expired c d ≠ 0 then discardLate c d s else s) h ?_
    split
    · exact .of_tallied (setExpired_tallied s c d _)
    · exact .same
  | anchorJob => exact .of_live h (.of_tallied ((takeJob_tallied s fun _ x => .refl 0 x).weaken 1))
  | fetchJob => exact .of_live h (.of_tallied ((takeJob_tallied s fun j x => workFetch_tallied x j).weaken 1))
  | linkJob => exact .of_live h (.of_tallied ((takeJob_tallied s fun j x => workLink_tallied x j).weaken 1))
  | orderReadIssue => exact .of_live h (.of_tallied (issueOrderRead_tallied s))
  | start st n k g w r a => exact .of_live h (.of_tallied (takeRequest_tallied s (actStart_tallied s _)))
  | halt st n => exact .of_live h (.of_tallied (takeRequest_tallied s (actHalt_tallied s n)))
  | resume st n => exact .of_live h (.of_tallied (takeRequest_tallied s (actResume_tallied s n)))
  | forget st n => exact .of_live h (.of_tallied (takeRequest_tallied s (actForget_tallied s n)))
  | anchorReadDone d => exact .of_live h (.of_respond fun _ s _ => .of_tallied (anchorReadOk_tallied s d))
  | orderReadDone d => exact .of_live h (.of_respond fun _ s _ => .of_tallied (orderReadOk_tallied s d))
  | linkReadDone d => exact .of_live h (.of_respond fun _ s _ => .of_tallied (linkReadOk_tallied s d))
  | boardHeaderReadDone d => exact .of_live h (.of_respond fun _ s _ => headerReadOk_balances s d)
  | slotReadDone k d => exact .of_live h (.of_respond fun _ s _ => .of_tallied (slotReadOk_tallied s d))
  | dataWriteDone k => exact .of_live h (.of_respond fun _ s _ => .of_tallied (dataWriteOk_tallied s))
  | metadataWriteDone =>
    refine .of_live h (.of_respond fun x s hx => ?_)
    cases x with
    | metadataWrite k a m => exact .of_tallied (metadataOk_tallied s)
    | _ => exact nomatch hx
  | fillWriteDone =>
    refine .of_live h (.of_respond fun x s hx => ?_)
    cases x with
    | fillWrite k a v => exact .of_tallied (fillOk_tallied s)
    | _ => exact nomatch hx
  | deviceHalfWriteDone => exact .of_live h (.of_respond fun _ s _ => .of_tallied (halfEnded_tallied s))
  | publicationBegin => exact .of_live h (.of_tallied (beginPublication_tallied s))
  | streamStatusWriteDone => exact .of_live h (.of_respond fun _ s _ => .of_tallied (streamStatusOk_tallied s))
  | summaryWriteDone => exact .of_live h (.of_respond fun _ s _ => summaryOk_balances s)
  | laneStatusWriteDone => exact .of_live h (.of_respond fun _ s _ => .of_tallied (laneStatusOk_tallied s))
  | slotReadFault | dataWriteFault | commitWriteFault | deviceHalfWriteFault | orderReadFault | linkReadFault
  | anchorReadFault | boardHeaderReadFault | boardWriteFault =>
    exact .of_live h (.of_respond fun x s _ => portFault_balances x s)
  | quiescePoint => exact .of_live h (.of_tallied (quiescePoint_tallied s))
  | drainLaneRefresh => exact .of_live h (.of_tallied (drainRefresh_tallied s))
  | closingPublication => exact .of_live h (.of_tallied (closingPublication_tallied s))
  | resetComplete => exact .of_live h (resetComplete_balances s)

theorem step_balances {s t : State} (h : step s = .next t) : Balances s t := by
  unfold step at h
  split at h
  · exact Host.Outcome.next.inj h ▸ .of_tallied ((tick_tallied s).weaken 1)
  · next c q _ =>
    have hx : Balances { s with pending := q } t := exec_balances h
    exact ⟨hx.frames, hx.held⟩

/-- Settles O59: every command tallies, but for an entry to RESETTING or BROKEN, where frames are no longer counted,
a reset, and the entry to RUNNING from QUIET, where no frame is held. -/
theorem everyStepKeepsTheCountersBalanced : Obligations.EveryStepKeepsTheCountersBalanced := by
  unfold Obligations.EveryStepKeepsTheCountersBalanced
  exact ⟨fun s s' hq hf h => (step_balances h).frames hq hf, fun s s' hs hw h => (step_balances h).held hw hs⟩

end Sys2Proof.Machine
